-- ==== Sys2Proof/Word.lean ====
section
/-! DEFINITION. The value types of rules R10 and R12: bytes, levels, seconds, and the checksum function's type.
All values are unsigned (R10); an index of a sequence counts from 0 (R51). -/

namespace Sys2Proof

/-- A byte, an unsigned value 0..255 (R10, R12). -/
abbrev Byte := BitVec 8

/-- The level of a line, 0 or 1 (`WriteDigital(line, 0 or 1)`, R12; the 1-bit latches of R23). -/
abbrev Level := BitVec 1

/-- Whole seconds, a duration or an elapsed time: unsigned 32 bits (`DUR_BITS`, `T_BITS` of R6, R26, R161). -/
abbrev Seconds := BitVec 32

/-- `Int40`, the integer form of a frame (R12, R68): exactly 40 bits, so no larger value can be presented. -/
abbrev Int40 := BitVec 40

/-- The 24-bit payload or command argument (R53, R70, R90). -/
abbrev Payload := BitVec 24

/-- `Bytes5`, the byte form: an array `b[0..4]` (R12, R67). -/
abbrev Bytes5 := Vector Byte 5

/-- `ByteSeq`: a byte sequence of any length, 0 included (R12). -/
abbrev ByteSeq := List Byte

/-- `Text`: a sequence of 8-bit character codes of any length, 0 included (R12, R140). -/
abbrev Text := List Byte

/-- The type of the checksum function `CK`: a total function of four bytes (R8). -/
abbrev Checksum := Byte → Byte → Byte → Byte → Byte

end Sys2Proof
end

