-- ==== Sys2Proof/Syntax.lean ====
section
/-! DEFINITION. Frames, command variants, the 28 operations (one constructor per row of spec/opcode_table.json, R75)
with the operands of R72, and the request in which the host presents an operation (R71). -/

namespace Sys2Proof

/-- FRAME40, the field form of a frame (R66): five 8-bit fields, nothing else; a value type (R12). -/
structure Frame where
  header : Byte
  datum1 : Byte
  datum2 : Byte
  datum3 : Byte
  checksum : Byte
  deriving DecidableEq, Repr

/-- The closed set of the 13 command variants (R76), in the order of their numbers 0..12. -/
inductive Variant where
  | link | rtc | caset | boardt | dimon | serno | status | hwsw | cfgchk | trigsrc | setilk | seten | setprr
  deriving DecidableEq, Repr

/-- The 28 operations with their operands (R72, R75). -/
inductive Instr where
  | encLink (arg : Payload)
  | encRtc (arg : Payload)
  | encCaset (arg : Payload)
  | encBoardt (arg : Payload)
  | encDimon (arg : Payload)
  | encSerno (arg : Payload)
  | encStatus (arg : Payload)
  | encHwsw (arg : Payload)
  | encCfgchk (arg : Payload)
  | encTrigsrc (arg : Payload)
  | encSetilk (arg : Payload)
  | encSeten (arg : Payload)
  | encSetprr (arg : Payload)
  | pack (h d1 d2 d3 : Byte)
  | unpack (f : Frame)
  | cksum (h d1 d2 d3 : Byte)
  | validate (f : Frame)
  | f2b (f : Frame)
  | b2f (b : Bytes5)
  | decb (bs : ByteSeq)
  | f2i (f : Frame)
  | i2f (n : Int40)
  | f2h (f : Frame)
  | h2f (text : Text)
  | start (ws ls cs : Seconds)
  | classify (t : Seconds)
  | tick (t : Seconds)
  | quit
  deriving DecidableEq, Repr

/-- The `ENC.*` operation of a variant: the source's `encode(command)` as a composition (R76, R85). -/
def Instr.enc : Variant → Payload → Instr
  | .link, arg => .encLink arg
  | .rtc, arg => .encRtc arg
  | .caset, arg => .encCaset arg
  | .boardt, arg => .encBoardt arg
  | .dimon, arg => .encDimon arg
  | .serno, arg => .encSerno arg
  | .status, arg => .encStatus arg
  | .hwsw, arg => .encHwsw arg
  | .cfgchk, arg => .encCfgchk arg
  | .trigsrc, arg => .encTrigsrc arg
  | .setilk, arg => .encSetilk arg
  | .seten, arg => .encSeten arg
  | .setprr, arg => .encSetprr arg

/-- The mnemonic of an operation, as the operation map R75 and spec/opcode_table.json spell it. -/
def Instr.mnemonic : Instr → String
  | .encLink _ => "ENC.LINK"
  | .encRtc _ => "ENC.RTC"
  | .encCaset _ => "ENC.CASET"
  | .encBoardt _ => "ENC.BOARDT"
  | .encDimon _ => "ENC.DIMON"
  | .encSerno _ => "ENC.SERNO"
  | .encStatus _ => "ENC.STATUS"
  | .encHwsw _ => "ENC.HWSW"
  | .encCfgchk _ => "ENC.CFGCHK"
  | .encTrigsrc _ => "ENC.TRIGSRC"
  | .encSetilk _ => "ENC.SETILK"
  | .encSeten _ => "ENC.SETEN"
  | .encSetprr _ => "ENC.SETPRR"
  | .pack _ _ _ _ => "PACK"
  | .unpack _ => "UNPACK"
  | .cksum _ _ _ _ => "CKSUM"
  | .validate _ => "VALIDATE"
  | .f2b _ => "F2B"
  | .b2f _ => "B2F"
  | .decb _ => "DECB"
  | .f2i _ => "F2I"
  | .i2f _ => "I2F"
  | .f2h _ => "F2H"
  | .h2f _ => "H2F"
  | .start _ _ _ => "START"
  | .classify _ => "CLASSIFY"
  | .tick _ => "TICK"
  | .quit => "QUIT"

/-- The operation belongs to the Frame Codec Unit, selector bit `op[4]` = 0 (R71); the other four are the sequencer's. -/
def Instr.isFcu : Instr → Bool
  | .start _ _ _ => false
  | .classify _ => false
  | .tick _ => false
  | .quit => false
  | _ => true

/-- The named operand ports (R71, R72), each of its own width. R72 writes `t` both for `H2F`'s text and for the time of
`CLASSIFY` and `TICK`, and `s` for `DECB`'s byte sequence; here they are `text`, `t` and `bs` (assumption 5). -/
structure Ports where
  arg : Payload
  h : Byte
  d1 : Byte
  d2 : Byte
  d3 : Byte
  f : Frame
  b : Bytes5
  bs : ByteSeq
  n : Int40
  text : Text
  ws : Seconds
  ls : Seconds
  cs : Seconds
  t : Seconds
  deriving DecidableEq, Repr

/-- Every port at zero (a sequence port: empty). -/
def Ports.zero : Ports :=
  { arg := 0, h := 0, d1 := 0, d2 := 0, d3 := 0, f := ⟨0, 0, 0, 0, 0⟩, b := #v[0, 0, 0, 0, 0], bs := [], n := 0,
    text := [], ws := 0, ls := 0, cs := 0, t := 0 }

/-- OPREQ, an operation request (R71): a 9-bit selector `op[4:0] ‖ var[3:0]`, with the operands beside it on named
ports. Operands are not packed into a word. -/
structure Request where
  sel : BitVec 9
  ports : Ports
  deriving DecidableEq, Repr

/-- The field `op[4:0]` of a selector (R71). -/
def selOp (sel : BitVec 9) : BitVec 5 := sel.extractLsb' 4 5

/-- The field `var[3:0]` of a selector (R71). -/
def selVar (sel : BitVec 9) : BitVec 4 := sel.extractLsb' 0 4

/-- The field `op[4:0]` of a request's selector (R71). -/
def Request.op (r : Request) : BitVec 5 := selOp r.sel

/-- The field `var[3:0]` of a request's selector (R71). -/
def Request.var (r : Request) : BitVec 4 := selVar r.sel

end Sys2Proof
end

