-- ==== Sys2Proof/WellFormed.lean ====
section
/-! DEFINITION. When a request names an operation (R75, R81, R82), and when it is the canonical request of that
operation. Every value of `Instr` is well formed by its type: the variant set is closed (R76, R82), the ports have exact
widths (R68, R72), a byte sequence and a text may have any length (R12). -/

namespace Sys2Proof

/-- `op` is one of R75's values: not 0x0C to 0x0F, not 0x14 to 0x1F (R81). -/
def Request.opDefined (r : Request) : Bool :=
  r.op.toNat ≤ 0x0B || (0x10 ≤ r.op.toNat && r.op.toNat ≤ 0x13)

/-- With `op = 0x00`, `var` is not 13, 14 or 15 (R82); elsewhere `var` is ignored (R71). -/
def Request.varDefined (r : Request) : Bool :=
  r.op != 0 || r.var.toNat ≤ 12

/-- A well-formed request: its selector names one of the 28 operations. -/
def Request.wf (r : Request) : Bool := r.opDefined && r.varDefined

/-- `var` is 0 where it is ignored (the choice of 95_test_vectors.md section 9). -/
def Request.varIdle (r : Request) : Bool := r.op == 0 || r.var == 0

/-- Every port that the operation named by `op` does not read (R72) is at zero. -/
def Request.portsIdle (r : Request) : Bool :=
  let p := r.ports
  match r.op.toNat with
  | 0x00 => p == { Ports.zero with arg := p.arg }
  | 0x01 => p == { Ports.zero with h := p.h, d1 := p.d1, d2 := p.d2, d3 := p.d3 }
  | 0x02 => p == { Ports.zero with f := p.f }
  | 0x03 => p == { Ports.zero with h := p.h, d1 := p.d1, d2 := p.d2, d3 := p.d3 }
  | 0x04 => p == { Ports.zero with f := p.f }
  | 0x05 => p == { Ports.zero with f := p.f }
  | 0x06 => p == { Ports.zero with b := p.b }
  | 0x07 => p == { Ports.zero with bs := p.bs }
  | 0x08 => p == { Ports.zero with f := p.f }
  | 0x09 => p == { Ports.zero with n := p.n }
  | 0x0A => p == { Ports.zero with f := p.f }
  | 0x0B => p == { Ports.zero with text := p.text }
  | 0x10 => p == { Ports.zero with ws := p.ws, ls := p.ls, cs := p.cs }
  | 0x11 => p == { Ports.zero with t := p.t }
  | 0x12 => p == { Ports.zero with t := p.t }
  | 0x13 => p == Ports.zero
  | _ => true

/-- The canonical request of its operation: well formed, ignored `var` 0, unread ports 0. -/
def Request.canonical (r : Request) : Bool := r.wf && r.varIdle && r.portsIdle

end Sys2Proof
end

