-- ==== Sys2Proof/Decode.lean ====
section
/-! DEFINITION. The decoder from a request to an operation (R71, R75), total and rejecting by name, the encoder back, and
the operation map of R75 as a table of match and mask. -/

namespace Sys2Proof

/-- Why a request names no operation (R208, check 1). -/
inductive Reject where
  /-- `op` is 0x0C to 0x0F or 0x14 to 0x1F (R81). -/
  | reservedOp (op : BitVec 5)
  /-- `op = 0x00` and `var` is 13, 14 or 15 (R82). -/
  | reservedVar (var : BitVec 4)
  deriving DecidableEq, Repr

/-- The variant numbered `var` (R76). -/
def variantOf (var : BitVec 4) : Except Reject Variant :=
  match var.toNat with
  | 0 => .ok .link
  | 1 => .ok .rtc
  | 2 => .ok .caset
  | 3 => .ok .boardt
  | 4 => .ok .dimon
  | 5 => .ok .serno
  | 6 => .ok .status
  | 7 => .ok .hwsw
  | 8 => .ok .cfgchk
  | 9 => .ok .trigsrc
  | 10 => .ok .setilk
  | 11 => .ok .seten
  | 12 => .ok .setprr
  | _ => .error (.reservedVar var)

/-- The operation a selector names, with its operands taken from their ports (R71, R72, R75). -/
def decodeSel (sel : BitVec 9) (p : Ports) : Except Reject Instr :=
  match (selOp sel).toNat with
  | 0x00 =>
    match variantOf (selVar sel) with
    | .ok v => .ok (Instr.enc v p.arg)
    | .error e => .error e
  | 0x01 => .ok (.pack p.h p.d1 p.d2 p.d3)
  | 0x02 => .ok (.unpack p.f)
  | 0x03 => .ok (.cksum p.h p.d1 p.d2 p.d3)
  | 0x04 => .ok (.validate p.f)
  | 0x05 => .ok (.f2b p.f)
  | 0x06 => .ok (.b2f p.b)
  | 0x07 => .ok (.decb p.bs)
  | 0x08 => .ok (.f2i p.f)
  | 0x09 => .ok (.i2f p.n)
  | 0x0A => .ok (.f2h p.f)
  | 0x0B => .ok (.h2f p.text)
  | 0x10 => .ok (.start p.ws p.ls p.cs)
  | 0x11 => .ok (.classify p.t)
  | 0x12 => .ok (.tick p.t)
  | 0x13 => .ok .quit
  | _ => .error (.reservedOp (selOp sel))

/-- The operation a request names (R71, R75); ports it does not read are ignored (assumption 4). -/
def decode (r : Request) : Except Reject Instr :=
  match r with
  | ⟨sel, p⟩ => decodeSel sel p

/-- The canonical request of an operation: R75's `sel` (with `var` 0 where it is ignored), the operands on their ports,
every other port at zero (assumption 14). -/
def encode : Instr → Request
  | .encLink arg => ⟨0x000, { Ports.zero with arg }⟩
  | .encRtc arg => ⟨0x001, { Ports.zero with arg }⟩
  | .encCaset arg => ⟨0x002, { Ports.zero with arg }⟩
  | .encBoardt arg => ⟨0x003, { Ports.zero with arg }⟩
  | .encDimon arg => ⟨0x004, { Ports.zero with arg }⟩
  | .encSerno arg => ⟨0x005, { Ports.zero with arg }⟩
  | .encStatus arg => ⟨0x006, { Ports.zero with arg }⟩
  | .encHwsw arg => ⟨0x007, { Ports.zero with arg }⟩
  | .encCfgchk arg => ⟨0x008, { Ports.zero with arg }⟩
  | .encTrigsrc arg => ⟨0x009, { Ports.zero with arg }⟩
  | .encSetilk arg => ⟨0x00A, { Ports.zero with arg }⟩
  | .encSeten arg => ⟨0x00B, { Ports.zero with arg }⟩
  | .encSetprr arg => ⟨0x00C, { Ports.zero with arg }⟩
  | .pack h d1 d2 d3 => ⟨0x010, { Ports.zero with h, d1, d2, d3 }⟩
  | .unpack f => ⟨0x020, { Ports.zero with f }⟩
  | .cksum h d1 d2 d3 => ⟨0x030, { Ports.zero with h, d1, d2, d3 }⟩
  | .validate f => ⟨0x040, { Ports.zero with f }⟩
  | .f2b f => ⟨0x050, { Ports.zero with f }⟩
  | .b2f b => ⟨0x060, { Ports.zero with b }⟩
  | .decb bs => ⟨0x070, { Ports.zero with bs }⟩
  | .f2i f => ⟨0x080, { Ports.zero with f }⟩
  | .i2f n => ⟨0x090, { Ports.zero with n }⟩
  | .f2h f => ⟨0x0A0, { Ports.zero with f }⟩
  | .h2f text => ⟨0x0B0, { Ports.zero with text }⟩
  | .start ws ls cs => ⟨0x100, { Ports.zero with ws, ls, cs }⟩
  | .classify t => ⟨0x110, { Ports.zero with t }⟩
  | .tick t => ⟨0x120, { Ports.zero with t }⟩
  | .quit => ⟨0x130, Ports.zero⟩

/-- One row of the operation map (R75). -/
structure OpRow where
  mnemonic : String
  selMatch : BitVec 9
  mask : BitVec 9
  deriving DecidableEq, Repr

/-- The row's pattern fits the selector: the bits under the mask are the row's. -/
def OpRow.fits (row : OpRow) (sel : BitVec 9) : Bool := sel &&& row.mask == row.selMatch

/-- The `ENC.*` rows of R75: all nine selector bits are compared. -/
def encRows : List OpRow :=
  [⟨"ENC.LINK", 0x000, 0x1FF⟩, ⟨"ENC.RTC", 0x001, 0x1FF⟩, ⟨"ENC.CASET", 0x002, 0x1FF⟩, ⟨"ENC.BOARDT", 0x003, 0x1FF⟩,
   ⟨"ENC.DIMON", 0x004, 0x1FF⟩, ⟨"ENC.SERNO", 0x005, 0x1FF⟩, ⟨"ENC.STATUS", 0x006, 0x1FF⟩, ⟨"ENC.HWSW", 0x007, 0x1FF⟩,
   ⟨"ENC.CFGCHK", 0x008, 0x1FF⟩, ⟨"ENC.TRIGSRC", 0x009, 0x1FF⟩, ⟨"ENC.SETILK", 0x00A, 0x1FF⟩,
   ⟨"ENC.SETEN", 0x00B, 0x1FF⟩, ⟨"ENC.SETPRR", 0x00C, 0x1FF⟩]

/-- The other rows of R75: `var` is not compared. -/
def otherRows : List OpRow :=
  [⟨"PACK", 0x010, 0x1F0⟩, ⟨"UNPACK", 0x020, 0x1F0⟩, ⟨"CKSUM", 0x030, 0x1F0⟩, ⟨"VALIDATE", 0x040, 0x1F0⟩,
   ⟨"F2B", 0x050, 0x1F0⟩, ⟨"B2F", 0x060, 0x1F0⟩, ⟨"DECB", 0x070, 0x1F0⟩, ⟨"F2I", 0x080, 0x1F0⟩,
   ⟨"I2F", 0x090, 0x1F0⟩, ⟨"F2H", 0x0A0, 0x1F0⟩, ⟨"H2F", 0x0B0, 0x1F0⟩, ⟨"START", 0x100, 0x1F0⟩,
   ⟨"CLASSIFY", 0x110, 0x1F0⟩, ⟨"TICK", 0x120, 0x1F0⟩, ⟨"QUIT", 0x130, 0x1F0⟩]

/-- The operation map of R75: 28 rows. -/
def opRows : List OpRow := encRows ++ otherRows

/-- The request whose selector is the low nine of `nbits` bits of a number, every port at zero. The table gives a row
nine bits, in whole bytes sixteen; the seven above the selector reach no port (assumption 10). -/
def Request.ofTableWord (nbits w : Nat) : Request := ⟨BitVec.ofNat 9 (w % 2 ^ nbits), Ports.zero⟩

/-- The instruction the decoder reads from a word numbered as spec/opcode_table.json numbers it, operands zero. -/
def decodeTableWord (nbits w : Nat) : Option Instr :=
  match decode (Request.ofTableWord nbits w) with
  | .ok i => some i
  | .error _ => none

end Sys2Proof
end

