-- ==== Sys2Proof/Config.lean ====
section
/-! DEFINITION. The parameters of the block (R6, R8, R9, R40): fixed for the life of the block, read from no
register, changed by no operation. The OPEN ones are fields of an opaque constant: nothing can be proved of their
values. `DUTY_HALF` is a field with the default 128. -/

namespace Sys2Proof

/-- The OPEN parameters of R6 that the block reads. -/
structure OpenConfig where
  /-- `CK`, the checksum function, uninterpreted (R8). -/
  ck : Checksum
  /-- `HDR[v]`, the header byte of each command variant (R9). -/
  hdr : Variant → Byte
  /-- `PAYLOAD[v]`, the payload rule of each command variant (R9). -/
  payload : Variant → Payload → Payload
  /-- `LASER_HZ`, the laser frequency in hertz (R6). -/
  laserHz : Nat
  /-- `SETTLE_US`, the settle delay in microseconds (R6). -/
  settleUs : Nat
  deriving Inhabited

/-- All the parameters of R6 that the block reads. -/
structure Config extends OpenConfig where
  /-- `DUTY_HALF`, the duty of 50% on the scale 0..255: a parameter with default 128 (R6, R172; D18, C8, U9;
  assumption 7). A block with another duty is the same configuration with this field set. -/
  dutyHalf : Byte := 128

/-- The OPEN parameters of the modelled block: without a value (R6, R8, R9; assumption 6). -/
opaque OpenConfig.fcps : OpenConfig

/-- The parameters of the modelled block: the OPEN ones, and every other one at its default. -/
def Config.fcps : Config := { OpenConfig.fcps with }

end Sys2Proof
end

