-- ==== Sys2Proof/Machine/State.lean ====
section
/-! DEFINITION. The state of the machine as plain data (R14, R22, R23, R34), the outcomes that stop it, and the state
after reset (R41). The block has no register file, program counter, memory or flags (R20, R21, R37, R50). -/

namespace Sys2Proof.Machine

/-- The five phases (R24, R78), in the order of their codes 0 to 4. -/
inductive Phase where
  | wait | warmup | lase | cool | quit
  deriving DecidableEq, Repr

/-- The completion status of an operation (R79), in the order of the codes 0 to 3. -/
inductive Status where
  | ok | wrongLength | checksumMismatch | refused
  deriving DecidableEq, Repr

/-- The three output lines the sequencer owns (R12): opaque, distinct identifiers (R6, R80; assumption 8). -/
inductive Line where
  | enable | shutter | pulse
  deriving DecidableEq, Repr

/-- A command to the GPIO collaborator (R12, R80). -/
inductive GpioCmd where
  | writeDigital (line : Line) (level : Level)
  | setPwmFrequency (line : Line) (hz : Nat)
  | setPwmDuty (line : Line) (duty : Byte)
  | delay (us : Nat)
  deriving DecidableEq, Repr

/-- The value results of R72, as the operation that delivers them names its ports. -/
inductive Value where
  | frame (f : Frame)
  | fields (h d1 d2 d3 k : Byte)
  | byte (k : Byte)
  | bytes (b : Bytes5)
  | int (n : Int40)
  | text (t : Text)
  | phase (ph : Phase)
  deriving DecidableEq, Repr

/-- What an operation returns when it completes: its status, and its value where one is delivered (R11, R72). -/
structure Completion where
  status : Status
  value : Option Value
  deriving DecidableEq, Repr

/-- What the host can do to the block: issue an operation (R71), or reset it between operations (R230). -/
inductive HostEvent where
  | op (r : Request)
  | reset
  deriving DecidableEq, Repr

/-- The three latched durations, in whole seconds (R26). -/
structure Durations where
  /-- S2 `WSEC`, the warm-up duration. -/
  wsec : Seconds
  /-- S3 `LSEC`, the lasing duration. -/
  lsec : Seconds
  /-- S4 `CSEC`, the cool-down duration: stored and never read (R27). -/
  csec : Seconds
  deriving DecidableEq, Repr

/-- The whole state: S0 to S9 (R23), the history `OUTLOG` (R34), and the model's own host side. A latch is `none` while
it holds no value (R23, R41). -/
structure State where
  /-- S0 `PHASE`, the stored phase (R24). -/
  phase : Phase
  /-- S1 `DV` is the tag (R25: 1 when the durations hold values); S2 to S4 are the value, which nothing can read while
  `DV` = 0 (R166). -/
  durations : Option Durations
  /-- S5 `O_EN`, the last level written to the enable line (R28). -/
  oEn : Option Level
  /-- S6 `O_SH`, the last level written to the shutter line: never written (R29). -/
  oSh : Option Level
  /-- S7 `O_PL`, the last digital level written to the pulse line (R30). -/
  oPl : Option Level
  /-- S8 `PWM_HZ`, the last PWM frequency set on the pulse line (R31). -/
  pwmHz : Option Nat
  /-- S9 `PWM_DUTY`, the last PWM duty set on the pulse line (R32). -/
  pwmDuty : Option Byte
  /-- `OUTLOG`, every GPIO command emitted since reset, oldest first (R34; assumption 12). -/
  outlog : List GpioCmd
  /-- The model's own: what the host has issued and the block has not yet taken, oldest first (R58; assumption 1). -/
  inbox : List HostEvent
  /-- The model's own: the completion of the last operation that completed (R37, R72; assumption 2). -/
  reply : Option Completion
  deriving DecidableEq, Repr

/-- S1 `DV` (R23, R25): the durations hold values. -/
def State.dv (s : State) : Bool := s.durations.isSome

/-- There is no fault: "The block raises no trap, no fault and no interrupt, and never stops" (R200). No one raises one;
that is safe, since every operation completes. -/
inductive Fault where
  deriving DecidableEq, Repr

/-- Why the model gives an operation no meaning. The block's own `REFUSED` is no refusal of the model: it is a status,
delivered with a next state (R203). -/
inductive Refusal where
  /-- Raised only by an arm of `exec` whose operation has no meaning yet: safe, the machine stops. No arm raises it. -/
  | notModelled (mnemonic : String)
  deriving DecidableEq, Repr

/-- What `exec` and `step` answer. -/
abbrev Answer := Host.Outcome State Fault Refusal

/-- The machine after reset (R41), with nothing issued by the host and nothing completed yet. -/
def State.reset : State :=
  { phase := .wait, durations := none, oEn := none, oSh := none, oPl := none, pwmHz := none, pwmDuty := none,
    outlog := [], inbox := [], reply := none }

end Sys2Proof.Machine
end

