-- ==== Sys2Proof/Machine/Operands.lean ====
section
/-! DEFINITION. The four forms of one frame (R65: fields, bytes, 40-bit integer, hex text) and the conversions between
them, and the numeric codes of the phases (R78). None of them looks at the checksum. -/

namespace Sys2Proof.Machine

/-- BYTES5 of a frame (R67, R121): header first, checksum last. -/
def frameToBytes (f : Frame) : Bytes5 := #v[f.header, f.datum1, f.datum2, f.datum3, f.checksum]

/-- The frame of a BYTES5 (R67, R122). -/
def bytesToFrame (b : Bytes5) : Frame := ⟨b[0], b[1], b[2], b[3], b[4]⟩

/-- INT40 of a frame (R52, R68, R128): `header ‖ datum1 ‖ datum2 ‖ datum3 ‖ checksum`. -/
def frameToInt (f : Frame) : Int40 := f.header ++ f.datum1 ++ f.datum2 ++ f.datum3 ++ f.checksum

/-- The frame of an INT40 (R52, R129): `n[39:32]`, `n[31:24]`, `n[23:16]`, `n[15:8]`, `n[7:0]`. -/
def intToFrame (n : Int40) : Frame :=
  ⟨n.extractLsb' 32 8, n.extractLsb' 24 8, n.extractLsb' 16 8, n.extractLsb' 8 8, n.extractLsb' 0 8⟩

/-- `hexchar(n)` (R142): `0` to `9`, then upper-case `A` to `F`, in ASCII codes (assumption 15). -/
def hexChar (n : BitVec 4) : Byte :=
  if n.toNat ≤ 9 then BitVec.ofNat 8 (0x30 + n.toNat) else BitVec.ofNat 8 (0x41 + n.toNat - 10)

/-- `hexval(ch)` (R141): the value of a hexadecimal digit of either case; no other code is a digit. -/
def hexVal (ch : Byte) : Option Nat :=
  let code := ch.toNat
  if 0x30 ≤ code ∧ code ≤ 0x39 then some (code - 0x30)
  else if 0x41 ≤ code ∧ code ≤ 0x46 then some (code - 0x41 + 10)
  else if 0x61 ≤ code ∧ code ≤ 0x66 then some (code - 0x61 + 10)
  else none

/-- Digit `i` of the text form carries the nibble `n[39-4i : 36-4i]` (R54, R69, R143). -/
def hexNibble (n : Int40) (i : Nat) : BitVec 4 := n.extractLsb' (36 - 4 * i) 4

/-- HEX10 of a frame (R69, R144): ten upper-case digits, most significant first, leading zeros kept. -/
def frameToHex (f : Frame) : Text := (List.range 10).map fun i => hexChar (hexNibble (frameToInt f) i)

/-- The digit values of a text, where every character is a hex digit (R146). -/
def hexDigits (t : Text) : Option (List Nat) := t.mapM hexVal

/-- Positional value of a digit list, most significant first: the sum of R146 (`digit i` weighs `16^(9-i)` of ten). -/
def digitsValue (ds : List Nat) : Nat := ds.foldl (fun acc d => 16 * acc + d) 0

/-- The 3-bit code of a phase (R78). -/
def phaseCode : Phase → BitVec 3
  | .wait => 0
  | .warmup => 1
  | .lase => 2
  | .cool => 3
  | .quit => 4

/-- The name of a phase as text (R78). -/
def phaseName : Phase → String
  | .wait => "WAIT"
  | .warmup => "WARMUP"
  | .lase => "LASE"
  | .cool => "COOL"
  | .quit => "QUIT"

end Sys2Proof.Machine
end

