-- ==== Sys2Proof/Machine/Flags.lean ====
section
/-! DEFINITION. The checks that give a completion its status. The block has no flags (R37): a `Status` is a result of
the operation. The order of the checks is R208's: length, digits, checksum. -/

namespace Sys2Proof.Machine

/-- The status codes of R79. -/
def statusCode : Status → Nat
  | .ok => 0
  | .wrongLength => 1
  | .checksumMismatch => 2
  | .refused => 3

/-- A valid frame (R108): the checksum function of the four leading bytes gives the trailing one. -/
abbrev ValidFrame (ck : Checksum) (f : Frame) : Prop := ck f.header f.datum1 f.datum2 f.datum3 = f.checksum

/-- A frame built from four bytes, with its checksum (R104). -/
def buildFrame (ck : Checksum) (h a b c : Byte) : Frame := ⟨h, a, b, c, ck h a b c⟩

/-- `ENC(v, arg)` (R90): header of the variant, its payload most significant byte first (R70), checksum. -/
def encodeCommand (cfg : Config) (v : Variant) (arg : Payload) : Frame :=
  let p := cfg.payload v arg
  buildFrame cfg.ck (cfg.hdr v) (p.extractLsb' 16 8) (p.extractLsb' 8 8) (p.extractLsb' 0 8)

/-- The checksum comparison (R108, R202). -/
def checkFrame (ck : Checksum) (f : Frame) : Except Status Frame :=
  if ValidFrame ck f then .ok f else .error .checksumMismatch

/-- The checked decode of received bytes (R126): first the length, then the checksum. -/
def decodeBytes (ck : Checksum) (s : ByteSeq) : Except Status Frame :=
  match s with
  | [h, a, b, c, k] => checkFrame ck ⟨h, a, b, c, k⟩
  | _ => .error .wrongLength

/-- The checked decode of a hex text (R146): first the length, then every digit, then the checksum. -/
def decodeHex (ck : Checksum) (t : Text) : Except Status Frame :=
  if t.length ≠ 10 then .error .wrongLength
  else match hexDigits t with
    | none => .error .wrongLength
    | some ds => checkFrame ck (intToFrame (BitVec.ofNat 40 (digitsValue ds)))

end Sys2Proof.Machine
end

