-- ==== Sys2Proof/Machine/Ops.lean ====
section
/-! DEFINITION. The shared operations on the state: completing an operation, ending it in an error result, emitting a
GPIO command, classifying a time, changing the phase, resetting the block, taking what the host has issued. -/

namespace Sys2Proof.Machine

/-- `return (st, v)` (R11): the operation completes with its status and value. -/
def deliver (status : Status) (value : Option Value) (s : State) : State := { s with reply := some ⟨status, value⟩ }

/-- An error result (R11 `raise` and `refuse`, R200 to R203, R209): the status, no value, no change of state and nothing
emitted. It is what this block has in the place of taking an exception: no state is saved, control goes nowhere, and
there is no return. -/
def raise (status : Status) (s : State) : State := deliver status none s

/-- Complete with a checked result: its value with status OK, or the error result. -/
def answer (result : Except Status (Option Value)) (s : State) : State :=
  match result with
  | .ok v => deliver .ok v s
  | .error st => raise st s

/-- The latch update of `emit` (R33). The pairs of command and line that R33 does not list are issued by no rule and
update no latch (assumption 9). -/
def latch (cmd : GpioCmd) (s : State) : State :=
  match cmd with
  | .writeDigital .enable v => { s with oEn := some v }
  | .writeDigital .shutter v => { s with oSh := some v }
  | .writeDigital .pulse v => { s with oPl := some v }
  | .setPwmFrequency .pulse hz => { s with pwmHz := some hz }
  | .setPwmDuty .pulse d => { s with pwmDuty := some d }
  | .setPwmFrequency .enable _ => s
  | .setPwmFrequency .shutter _ => s
  | .setPwmDuty .enable _ => s
  | .setPwmDuty .shutter _ => s
  | .delay _ => s

/-- `emit(cmd)` (R33): append to `OUTLOG`, then update the latch. -/
def emit (cmd : GpioCmd) (s : State) : State := latch cmd { s with outlog := s.outlog ++ [cmd] }

/-- Several commands, in their order (R59). -/
def emitAll (cmds : List GpioCmd) (s : State) : State := cmds.foldl (fun s cmd => emit cmd s) s

/-- The five commands of the WARMUP to LASE transition, in order (R172). -/
def startLaser (cfg : Config) : List GpioCmd :=
  [.writeDigital .pulse 0, .writeDigital .enable 1, .delay cfg.settleUs, .setPwmFrequency .pulse cfg.laserHz,
   .setPwmDuty .pulse cfg.dutyHalf]

/-- The two commands of the LASE to COOL transition and of `QUIT`, in order (R173, R175). -/
def stopLaser : List GpioCmd := [.setPwmDuty .pulse 0, .writeDigital .enable 0]

/-- What a change of phase emits (R170, R172, R173; every other pair nothing, R174). -/
def transitionCommands (cfg : Config) (old new : Phase) : List GpioCmd :=
  match old, new with
  | .warmup, .lase => startLaser cfg
  | .lase, .cool => stopLaser
  | _, _ => []

/-- `W_END` (R27, R161), exact. -/
def Durations.wEnd (d : Durations) : Nat := d.wsec.toNat

/-- `L_END` (R27, R161), an exact sum, never reduced. -/
def Durations.lEnd (d : Durations) : Nat := d.wsec.toNat + d.lsec.toNat

/-- `C_END` (R27, R161): it has no observable effect. -/
def Durations.cEnd (d : Durations) : Nat := d.wsec.toNat + d.lsec.toNat + d.csec.toNat

/-- `classify(t)` (R164): a time equal to a boundary belongs to the later phase. -/
def classifyTime (d : Durations) (t : Seconds) : Phase :=
  if t.toNat < d.wEnd then .warmup
  else if t.toNat < d.lEnd then .lase
  else .cool

/-- The body of `TICK` after its checks (R169): on a change of phase the commands, and then the phase. -/
def changePhase (cfg : Config) (new : Phase) (s : State) : State :=
  if new = s.phase then s
  else { emitAll (transitionCommands cfg s.phase new) s with phase := new }

/-- `TICK` of a block with the parameters `cfg` (R169): refused while `DV = 0` (R166) and in QUIT (R171). A stored WAIT
beside durations, which no run reaches (R170), follows the same text (assumption 11). -/
def tick (cfg : Config) (t : Seconds) (s : State) : State :=
  match s.durations with
  | none => raise .refused s
  | some d =>
    if s.phase = .quit then raise .refused s
    else deliver .ok (some (.phase (classifyTime d t))) (changePhase cfg (classifyTime d t) s)

/-- Reset (R230, R41): the sequencer's state and an empty `OUTLOG`, and nothing else (assumption 13). -/
def resetBlock (s : State) : State :=
  { s with
    phase := .wait, durations := none, oEn := none, oSh := none, oPl := none, pwmHz := none, pwmDuty := none,
    outlog := [] }

/-- Take the oldest thing the host has issued, if there is one (R58). -/
def takeEvent (s : State) : Option (HostEvent × State) :=
  match s.inbox with
  | [] => none
  | e :: rest => some (e, { s with inbox := rest })

/-- A selector that names no operation (R81, R82): status `REFUSED`, nothing changes. -/
def rejectRequest (s : State) : Answer := .next (raise .refused s)

end Sys2Proof.Machine
end

