-- ==== Sys2Proof/Machine/Convert.lean ====
section
/-! DEFINITION. Byte and integer conversions: `F2B`, `B2F`, `DECB`, `F2I`, `I2F` (R121 to R129), pure (R22). -/

namespace Sys2Proof.Machine

/-- `F2B` (R121): header first, checksum last, not checked. -/
def execF2b (f : Frame) (s : State) : Answer := .next (deliver .ok (some (.bytes (frameToBytes f))) s)

/-- `B2F` (R122): not validated. -/
def execB2f (b : Bytes5) (s : State) : Answer := .next (deliver .ok (some (.frame (bytesToFrame b))) s)

/-- `DECB` (R126): on either error no frame is delivered. -/
def execDecb (bs : ByteSeq) (s : State) : Answer :=
  .next (answer ((decodeBytes Config.fcps.ck bs).map fun f => some (.frame f)) s)

/-- `F2I` (R128). -/
def execF2i (f : Frame) (s : State) : Answer := .next (deliver .ok (some (.int (frameToInt f))) s)

/-- `I2F` (R129): not validated. -/
def execI2f (n : Int40) (s : State) : Answer := .next (deliver .ok (some (.frame (intToFrame n))) s)

end Sys2Proof.Machine
end

