-- ==== Sys2Proof/Machine/Encode.lean ====
section
/-! DEFINITION. The 13 `ENC.*` operations (R90 to R103), pure (R22). -/

namespace Sys2Proof.Machine

/-- `ENC(v, arg)` as an operation (R90): the encoded frame, always OK. -/
def encodeVariant (v : Variant) (arg : Payload) (s : State) : Answer :=
  .next (deliver .ok (some (.frame (encodeCommand Config.fcps v arg))) s)

/-- `ENC.LINK` (R91): variant 0. -/
def execEncLink (arg : Payload) (s : State) : Answer := encodeVariant .link arg s

/-- `ENC.RTC` (R92): variant 1. -/
def execEncRtc (arg : Payload) (s : State) : Answer := encodeVariant .rtc arg s

/-- `ENC.CASET` (R93): variant 2. -/
def execEncCaset (arg : Payload) (s : State) : Answer := encodeVariant .caset arg s

/-- `ENC.BOARDT` (R94): variant 3. -/
def execEncBoardt (arg : Payload) (s : State) : Answer := encodeVariant .boardt arg s

/-- `ENC.DIMON` (R95): variant 4. -/
def execEncDimon (arg : Payload) (s : State) : Answer := encodeVariant .dimon arg s

/-- `ENC.SERNO` (R96): variant 5. -/
def execEncSerno (arg : Payload) (s : State) : Answer := encodeVariant .serno arg s

/-- `ENC.STATUS` (R97): variant 6. -/
def execEncStatus (arg : Payload) (s : State) : Answer := encodeVariant .status arg s

/-- `ENC.HWSW` (R98): variant 7. -/
def execEncHwsw (arg : Payload) (s : State) : Answer := encodeVariant .hwsw arg s

/-- `ENC.CFGCHK` (R99): variant 8. -/
def execEncCfgchk (arg : Payload) (s : State) : Answer := encodeVariant .cfgchk arg s

/-- `ENC.TRIGSRC` (R100): variant 9. -/
def execEncTrigsrc (arg : Payload) (s : State) : Answer := encodeVariant .trigsrc arg s

/-- `ENC.SETILK` (R101): variant 10. -/
def execEncSetilk (arg : Payload) (s : State) : Answer := encodeVariant .setilk arg s

/-- `ENC.SETEN` (R102): variant 11. -/
def execEncSeten (arg : Payload) (s : State) : Answer := encodeVariant .seten arg s

/-- `ENC.SETPRR` (R103): variant 12. -/
def execEncSetprr (arg : Payload) (s : State) : Answer := encodeVariant .setprr arg s

end Sys2Proof.Machine
end

