-- ==== Sys2Proof/Machine/FrameFields.lean ====
section
/-! DEFINITION. Frame construction, field access and the checksum: `PACK`, `UNPACK`, `CKSUM`, `VALIDATE` (R104 to R108),
pure (R22), all over the one checksum function (R107). -/

namespace Sys2Proof.Machine

/-- `PACK` (R104): a frame from raw bytes, always valid. -/
def execPack (h d1 d2 d3 : Byte) (s : State) : Answer :=
  .next (deliver .ok (some (.frame (buildFrame Config.fcps.ck h d1 d2 d3))) s)

/-- `UNPACK` (R105): the fields of a frame; an invalid frame unpacks like any other. -/
def execUnpack (f : Frame) (s : State) : Answer :=
  .next (deliver .ok (some (.fields f.header f.datum1 f.datum2 f.datum3 f.checksum)) s)

/-- `CKSUM` (R106): the checksum of four bytes. -/
def execCksum (h d1 d2 d3 : Byte) (s : State) : Answer :=
  .next (deliver .ok (some (.byte (Config.fcps.ck h d1 d2 d3))) s)

/-- `VALIDATE` (R108): a status and no value. -/
def execValidate (f : Frame) (s : State) : Answer :=
  .next (answer ((checkFrame Config.fcps.ck f).map fun _ => none) s)

end Sys2Proof.Machine
end

