-- ==== Sys2Proof/Machine/HexText.lean ====
section
/-! DEFINITION. The hexadecimal text codec: `F2H` and `H2F` (R144, R146), pure (R22). -/

namespace Sys2Proof.Machine

/-- `F2H` (R144): always ten upper-case digits, not checked. -/
def execF2h (f : Frame) (s : State) : Answer := .next (deliver .ok (some (.text (frameToHex f))) s)

/-- `H2F` (R146): on either error no frame is delivered. -/
def execH2f (text : Text) (s : State) : Answer :=
  .next (answer ((decodeHex Config.fcps.ck text).map fun f => some (.frame f)) s)

end Sys2Proof.Machine
end

