-- ==== Sys2Proof/Machine/Sequencer.lean ====
section
/-! DEFINITION. The Phase Sequencer Unit: `START`, `CLASSIFY`, `TICK`, `QUIT` (R162 to R175). -/

namespace Sys2Proof.Machine

/-- `START` (R162): accepted only in WAIT; latches the durations, enters WARMUP, emits nothing. -/
def execStart (ws ls cs : Seconds) (s : State) : Answer :=
  .next (if s.phase ≠ .wait then raise .refused s
    else deliver .ok none { s with durations := some ⟨ws, ls, cs⟩, phase := .warmup })

/-- `CLASSIFY` (R164): refused while `DV = 0` (R166); pure. -/
def execClassify (t : Seconds) (s : State) : Answer :=
  .next (match s.durations with
    | none => raise .refused s
    | some d => deliver .ok (some (.phase (classifyTime d t))) s)

/-- `TICK` (R169) with the parameters of the modelled block. -/
def execTick (t : Seconds) (s : State) : Answer := .next (tick Config.fcps t s)

/-- `QUIT` (R175): in every phase, always both commands, then QUIT. -/
def execQuit (s : State) : Answer := .next (deliver .ok none { emitAll stopLaser s with phase := .quit })

end Sys2Proof.Machine
end

