-- ==== Sys2Proof/Machine/Dispatch.lean ====
section
/-! DEFINITION. One arm per operation (R75): a direct call of its meaning. -/

namespace Sys2Proof.Machine

def exec (i : Instr) (s : State) : Host.Outcome State Fault Refusal :=
  match i with
  | .encLink arg => Sys2Proof.Machine.execEncLink arg s
  | .encRtc arg => Sys2Proof.Machine.execEncRtc arg s
  | .encCaset arg => Sys2Proof.Machine.execEncCaset arg s
  | .encBoardt arg => Sys2Proof.Machine.execEncBoardt arg s
  | .encDimon arg => Sys2Proof.Machine.execEncDimon arg s
  | .encSerno arg => Sys2Proof.Machine.execEncSerno arg s
  | .encStatus arg => Sys2Proof.Machine.execEncStatus arg s
  | .encHwsw arg => Sys2Proof.Machine.execEncHwsw arg s
  | .encCfgchk arg => Sys2Proof.Machine.execEncCfgchk arg s
  | .encTrigsrc arg => Sys2Proof.Machine.execEncTrigsrc arg s
  | .encSetilk arg => Sys2Proof.Machine.execEncSetilk arg s
  | .encSeten arg => Sys2Proof.Machine.execEncSeten arg s
  | .encSetprr arg => Sys2Proof.Machine.execEncSetprr arg s
  | .pack h d1 d2 d3 => Sys2Proof.Machine.execPack h d1 d2 d3 s
  | .unpack f => Sys2Proof.Machine.execUnpack f s
  | .cksum h d1 d2 d3 => Sys2Proof.Machine.execCksum h d1 d2 d3 s
  | .validate f => Sys2Proof.Machine.execValidate f s
  | .f2b f => Sys2Proof.Machine.execF2b f s
  | .b2f b => Sys2Proof.Machine.execB2f b s
  | .decb bs => Sys2Proof.Machine.execDecb bs s
  | .f2i f => Sys2Proof.Machine.execF2i f s
  | .i2f n => Sys2Proof.Machine.execI2f n s
  | .f2h f => Sys2Proof.Machine.execF2h f s
  | .h2f text => Sys2Proof.Machine.execH2f text s
  | .start ws ls cs => Sys2Proof.Machine.execStart ws ls cs s
  | .classify t => Sys2Proof.Machine.execClassify t s
  | .tick t => Sys2Proof.Machine.execTick t s
  | .quit => Sys2Proof.Machine.execQuit s

end Sys2Proof.Machine
end

