-- ==== Sys2Proof/Machine/Step.lean ====
section
/-! DEFINITION. One step: the block takes the oldest thing the host has issued and carries it out whole (R57, R58). -/

namespace Sys2Proof.Machine

/-- One step. With nothing issued nothing happens (R13; assumption 3). -/
def step (s : State) : Host.Outcome State Fault Refusal :=
  match takeEvent s with
  | none => .next s
  | some (.reset, s') => .next (resetBlock s')
  | some (.op r, s') =>
    match decode r with
    | .ok i => exec i s'
    | .error _ => rejectRequest s'

/-- The host issues, ahead of anything it has issued already, the request of a table word with its operands zero, so
that the very next step runs it (R21: the block holds no program; assumption 10). -/
def State.withFetchWord (s : State) (nbits w : Nat) : State :=
  { s with inbox := .op (Request.ofTableWord nbits w) :: s.inbox }

end Sys2Proof.Machine
end

