-- ==== Sys2Proof/Safety.lean ====
section
/-! DEFINITION. The terms in which claims are stated: SAFE and energized (R36), runs and their premises by name (R247),
what `OUTLOG` counts (R34, R177), and the invariants of the machine. No rule of the machine uses any of it. -/

namespace Sys2Proof.Machine

/-- `SAFE` (R36): both latches hold a value and the value is 0. -/
abbrev Safe (s : State) : Prop := s.oEn = some 0 ∧ s.pwmDuty = some 0

/-- *Energized* (R36): the enable latch is 1, or the duty latch holds a non-zero value. Where the other of the two
latches holds no value R36 also says "neither `SAFE` nor energized"; that its second sentence decides there is the
model's DESIGN CHOICE (assumption 18); no run reaches such a state. -/
abbrev Energized (s : State) : Prop := s.oEn = some 1 ∨ (s.pwmDuty ≠ none ∧ s.pwmDuty ≠ some 0)

/-- Every request whose selector matches `m` under `mask` decodes to the operation `i` makes of its ports (R71, R75). -/
def Selects (m mask : BitVec 9) (i : Ports → Instr) : Prop :=
  ∀ r : Request, r.sel &&& mask = m → decode r = .ok (i r.ports)

/-- The state with the host having issued exactly these events, oldest first. -/
def State.issue (s : State) (es : List HostEvent) : State := { s with inbox := es }

/-- The state after `k` steps, where no step stops. -/
def afterSteps : Nat → State → Option State
  | 0, s => some s
  | k + 1, s =>
    match step s with
    | .next t => afterSteps k t
    | .fault _ => none
    | .refused _ => none

/-- The state after the given operations, one after another (R58). -/
def afterOps : List Instr → State → Option State
  | [], s => some s
  | i :: rest, s =>
    match exec i s with
    | .next t => afterOps rest t
    | .fault _ => none
    | .refused _ => none

/-- The time a host event presents to `TICK`, if it is a `TICK`. -/
def tickTime (e : HostEvent) : Option Seconds :=
  match e with
  | .reset => none
  | .op r =>
    match decode r with
    | .ok (.tick t) => some t
    | _ => none

/-- `MONOTONE_T` (R240, R247): the times of the `TICK`s never decrease. -/
def MonotoneT (es : List HostEvent) : Prop := (es.filterMap tickTime).Pairwise (· ≤ ·)

/-- A PWM start (R34): a duty command on the pulse line with a non-zero duty. -/
def isPwmStart : GpioCmd → Bool
  | .setPwmDuty .pulse d => d != 0
  | _ => false

/-- How often a sequence of commands occurs in another, as a contiguous stretch. -/
def occurrences (pattern : List GpioCmd) : List GpioCmd → Nat
  | [] => 0
  | c :: rest => (if pattern <+: c :: rest then 1 else 0) + occurrences pattern rest

/-- The next step is a `TICK` that finds the phase WARMUP and a time in the LASE interval (R177). -/
def FiresLaser (s : State) : Prop :=
  ∃ r rest t d, s.inbox = .op r :: rest ∧ decode r = .ok (.tick t) ∧ s.phase = .warmup ∧ s.durations = some d ∧
    d.wEnd ≤ t.toNat ∧ t.toNat < d.lEnd

/-- The digital level a command writes to a line. -/
def levelWritten (line : Line) : GpioCmd → Option Level
  | .writeDigital l v => if l = line then some v else none
  | _ => none

/-- The PWM frequency a command sets on the pulse line. -/
def hzWritten : GpioCmd → Option Nat
  | .setPwmFrequency .pulse hz => some hz
  | _ => none

/-- The PWM duty a command sets on the pulse line. -/
def dutyWritten : GpioCmd → Option Byte
  | .setPwmDuty .pulse d => some d
  | _ => none

/-- The line a command names. -/
def lineOf : GpioCmd → Option Line
  | .writeDigital l _ => some l
  | .setPwmFrequency l _ => some l
  | .setPwmDuty l _ => some l
  | .delay _ => none

/-- Each latch holds the last value `OUTLOG` commands for it, and no value where there is none (R28 to R33). -/
def LatchesRecord (s : State) : Prop :=
  s.oEn = (s.outlog.filterMap (levelWritten .enable)).getLast? ∧
  s.oSh = (s.outlog.filterMap (levelWritten .shutter)).getLast? ∧
  s.oPl = (s.outlog.filterMap (levelWritten .pulse)).getLast? ∧
  s.pwmHz = (s.outlog.filterMap hzWritten).getLast? ∧
  s.pwmDuty = (s.outlog.filterMap dutyWritten).getLast?

/-- The invariant that every step keeps, whatever the host does: latches agree with the history, the history holds only
the commands of R172 and R173, WAIT is the state before `START` (R25, R41), the running phases have durations (R170),
QUIT is `SAFE` (R176). -/
structure Coherent (s : State) : Prop where
  latches : LatchesRecord s
  commands : ∀ c ∈ s.outlog, c ∈ startLaser Config.fcps ∨ c ∈ stopLaser
  waiting : s.phase = .wait → s.durations = none ∧ s.outlog = []
  running : s.phase ≠ .wait → s.phase ≠ .quit → s.durations ≠ none
  ended : s.phase = .quit → Safe s

/-- What R180 says of a state: driven in LASE, not energized elsewhere. -/
def OutputsFollowPhase (s : State) : Prop :=
  (s.phase = .lase → s.oEn = some 1 ∧ s.oPl = some 0 ∧ s.pwmHz = some Config.fcps.laserHz ∧
    s.pwmDuty = some Config.fcps.dutyHalf) ∧
  (s.phase ≠ .lase → (s.oEn = none ∨ s.oEn = some 0) ∧ (s.pwmDuty = none ∨ s.pwmDuty = some 0))

/-- The invariant of a run whose times never decrease, `now` being the latest time presented: the outputs follow the
phase, and the phase is one that `now` has reached; in WAIT there are no durations yet (R165 b, R170, R177, R180). -/
structure OnTime (now : Seconds) (s : State) : Prop where
  outputs : OutputsFollowPhase s
  wait : s.phase = .wait → s.durations = none
  lase : s.phase = .lase → ∃ d, s.durations = some d ∧ d.wEnd ≤ now.toNat
  cool : s.phase = .cool → ∃ d, s.durations = some d ∧ d.lEnd ≤ now.toNat

/-- `CK_SENSITIVE` (R111): a change of exactly one of the four bytes changes the checksum. -/
def CkSensitive (ck : Checksum) : Prop :=
  ∀ h a b c h' a' b' c' : Byte,
    (h' ≠ h ∧ a' = a ∧ b' = b ∧ c' = c) ∨ (h' = h ∧ a' ≠ a ∧ b' = b ∧ c' = c) ∨
    (h' = h ∧ a' = a ∧ b' ≠ b ∧ c' = c) ∨ (h' = h ∧ a' = a ∧ b' = b ∧ c' ≠ c) →
    ck h' a' b' c' ≠ ck h a b c

/-- `f'` equals `f` except in exactly one of its first four bytes (R111). -/
def MutatesOneByte (f f' : Frame) : Prop :=
  (f'.header ≠ f.header ∧ f' = { f with header := f'.header }) ∨
  (f'.datum1 ≠ f.datum1 ∧ f' = { f with datum1 := f'.datum1 }) ∨
  (f'.datum2 ≠ f.datum2 ∧ f' = { f with datum2 := f'.datum2 }) ∨
  (f'.datum3 ≠ f.datum3 ∧ f' = { f with datum3 := f'.datum3 })

/-- A letter `a` to `f` as `A` to `F`, every other code unchanged (R147). -/
def upperCase (ch : Byte) : Byte := if 0x61 ≤ ch ∧ ch ≤ 0x66 then ch - 0x20 else ch

/-- The order WARMUP, LASE, COOL (R165 b). -/
def phaseRank : Phase → Nat
  | .wait => 0
  | .warmup => 1
  | .lase => 2
  | .cool => 3
  | .quit => 4

end Sys2Proof.Machine
end

