-- ==== Sys2Proof/Certificates/Slice0/Obligations.lean ====
section
/-! DEFINITION. The statements for the provers, taken from the numbered rules of spec/. Each docstring names the rules.
Nothing is proved here. -/

open Sys2Proof Sys2Proof.Machine

/-! ### Requests, decoding, the step -/

/-- R71, R72, R75: the encoder gives the one canonical request of an operation, and the decoder reads it back with
every operand, and conversely. -/
def Obligations.EncodeDecodeAreInverse : Prop :=
  ∀ (i : Instr) (r : Request), encode i = r ↔ decode r = .ok i ∧ r.canonical = true

/-- R75: 28 rows; the decoder accepts a selector exactly when a row's match fits it under the row's mask, one row at
most fits, and it bears the mnemonic of the decoded operation. -/
def Obligations.OperationMapMatchesDecoder : Prop :=
  opRows.length = 28 ∧
  (∀ r i, decode r = .ok i →
    ∃ row ∈ opRows, row.fits r.sel = true ∧ row.mnemonic = i.mnemonic ∧
      ∀ row' ∈ opRows, row'.fits r.sel = true → row' = row) ∧
  (∀ (r : Request) (row : OpRow), row ∈ opRows → row.fits r.sel = true →
    ∃ i, decode r = .ok i ∧ i.mnemonic = row.mnemonic)

/-- R81, R82: a reserved `op`, or `op = 0x00` with `var` 13 to 15, completes with `REFUSED`; nothing else changes. -/
def Obligations.ReservedSelectorsAreRefused : Prop :=
  ∀ (s : State) (r : Request) (rest : List HostEvent), s.inbox = .op r :: rest →
    (0x0C ≤ r.op.toNat ∧ r.op.toNat ≤ 0x0F) ∨ (0x14 ≤ r.op.toNat ∧ r.op.toNat ≤ 0x1F) ∨
      (r.op.toNat = 0x00 ∧ 13 ≤ r.var.toNat) →
    step s = .next { s with inbox := rest, reply := some ⟨.refused, none⟩ }

/-- A step takes the oldest event; a request that decodes to an operation runs exactly that operation, on the state
with the event taken. -/
def Obligations.StepRunsDecodedOperation : Prop :=
  ∀ (s : State) (r : Request) (rest : List HostEvent) (i : Instr),
    s.inbox = .op r :: rest → decode r = .ok i → step s = exec i { s with inbox := rest }

/-- R41: the reset values; the state after reset is neither `SAFE` nor energized (R36). -/
def Obligations.ResetStateHoldsTheResetValues : Prop :=
  State.reset.phase = .wait ∧ State.reset.dv = false ∧ State.reset.durations = none ∧
  State.reset.oEn = none ∧ State.reset.oSh = none ∧ State.reset.oPl = none ∧
  State.reset.pwmHz = none ∧ State.reset.pwmDuty = none ∧ State.reset.outlog = [] ∧
  ¬Safe State.reset ∧ ¬Energized State.reset

/-- R230 with R41. That reset leaves the model's own fields `inbox` and `reply` alone is the model's choice
(assumption 13). -/
def Obligations.ResetEventRestoresResetValues : Prop :=
  ∀ (s : State) (rest : List HostEvent), s.inbox = .reset :: rest →
    step s = .next { State.reset with inbox := rest, reply := s.reply }

/-- R75: selector words written out from the map (95_test_vectors.md 3.1 and section 9), with their operands. -/
def Obligations.SelectorWordsDecodeAsTheMapSays : Prop :=
  decode ⟨0b000001100, { Ports.zero with arg := 0x001234 }⟩ = .ok (.encSetprr 0x001234) ∧
  decode ⟨0b000010111, { Ports.zero with h := 0x10, d3 := 0x01 }⟩ = .ok (.pack 0x10 0x00 0x00 0x01) ∧
  decode ⟨0b001110000, { Ports.zero with bs := [0x10, 0, 0, 1] }⟩ = .ok (.decb [0x10, 0, 0, 1]) ∧
  decode ⟨0b010110000, { Ports.zero with text := [0x41] }⟩ = .ok (.h2f [0x41]) ∧
  decode ⟨0b100000000, { Ports.zero with ws := 10, ls := 20, cs := 5 }⟩ = .ok (.start 10 20 5) ∧
  decode ⟨0b100101111, { Ports.zero with t := 15 }⟩ = .ok (.tick 15) ∧
  decode ⟨0b100110000, Ports.zero⟩ = .ok .quit

/-- The block has no activity of its own (R13): with nothing issued a step changes nothing. That such a step exists is
the model's choice (assumption 3). -/
def Obligations.IdleStepChangesNothing : Prop :=
  ∀ s : State, s.inbox = [] → step s = .next s

/-- R58: operations take effect one at a time in the order issued, each on the state the earlier ones left, whatever
is issued after them. -/
def Obligations.OperationsTakeEffectInIssueOrder : Prop :=
  ∀ (is : List Instr) (rest : List HostEvent) (s : State),
    s.inbox = is.map (fun i => .op (encode i)) ++ rest →
    afterSteps is.length s = afterOps is { s with inbox := rest }

/-! ### Frame construction and checksum -/

/-- R91 to R97: the selector and the frame of `ENC.LINK`, `ENC.RTC`, `ENC.CASET`, `ENC.BOARDT`, `ENC.DIMON`,
`ENC.SERNO`, `ENC.STATUS`, always OK; nothing but the reply changes. -/
def Obligations.EncFirstSevenDeliverTheirFrames : Prop :=
  ∀ (arg : Payload) (s : State),
    let delivered (v : Variant) : Host.Outcome State Fault Refusal :=
      let h := Config.fcps.hdr v
      let p := Config.fcps.payload v arg
      let a := p.extractLsb' 16 8
      let b := p.extractLsb' 8 8
      let c := p.extractLsb' 0 8
      .next { s with reply := some ⟨.ok, some (.frame ⟨h, a, b, c, Config.fcps.ck h a b c⟩)⟩ }
    (Selects 0x000 0x1FF (fun p => .encLink p.arg) ∧ exec (.encLink arg) s = delivered .link) ∧
    (Selects 0x001 0x1FF (fun p => .encRtc p.arg) ∧ exec (.encRtc arg) s = delivered .rtc) ∧
    (Selects 0x002 0x1FF (fun p => .encCaset p.arg) ∧ exec (.encCaset arg) s = delivered .caset) ∧
    (Selects 0x003 0x1FF (fun p => .encBoardt p.arg) ∧ exec (.encBoardt arg) s = delivered .boardt) ∧
    (Selects 0x004 0x1FF (fun p => .encDimon p.arg) ∧ exec (.encDimon arg) s = delivered .dimon) ∧
    (Selects 0x005 0x1FF (fun p => .encSerno p.arg) ∧ exec (.encSerno arg) s = delivered .serno) ∧
    (Selects 0x006 0x1FF (fun p => .encStatus p.arg) ∧ exec (.encStatus arg) s = delivered .status)

/-- R98 to R103: the same of `ENC.HWSW`, `ENC.CFGCHK`, `ENC.TRIGSRC`, `ENC.SETILK`, `ENC.SETEN`, `ENC.SETPRR`. -/
def Obligations.EncLastSixDeliverTheirFrames : Prop :=
  ∀ (arg : Payload) (s : State),
    let delivered (v : Variant) : Host.Outcome State Fault Refusal :=
      let h := Config.fcps.hdr v
      let p := Config.fcps.payload v arg
      let a := p.extractLsb' 16 8
      let b := p.extractLsb' 8 8
      let c := p.extractLsb' 0 8
      .next { s with reply := some ⟨.ok, some (.frame ⟨h, a, b, c, Config.fcps.ck h a b c⟩)⟩ }
    (Selects 0x007 0x1FF (fun p => .encHwsw p.arg) ∧ exec (.encHwsw arg) s = delivered .hwsw) ∧
    (Selects 0x008 0x1FF (fun p => .encCfgchk p.arg) ∧ exec (.encCfgchk arg) s = delivered .cfgchk) ∧
    (Selects 0x009 0x1FF (fun p => .encTrigsrc p.arg) ∧ exec (.encTrigsrc arg) s = delivered .trigsrc) ∧
    (Selects 0x00A 0x1FF (fun p => .encSetilk p.arg) ∧ exec (.encSetilk arg) s = delivered .setilk) ∧
    (Selects 0x00B 0x1FF (fun p => .encSeten p.arg) ∧ exec (.encSeten arg) s = delivered .seten) ∧
    (Selects 0x00C 0x1FF (fun p => .encSetprr p.arg) ∧ exec (.encSetprr arg) s = delivered .setprr)

/-- R90, R109: for every variant `ENC` delivers the frame of the variant's parameters, and `PACK` the frame of its
bytes, and `VALIDATE`, at any time, answers OK to each, whatever `CK` is. -/
def Obligations.ConstructedFramesAreValid : Prop :=
  (∀ (h a b c : Byte) (s u : State),
    let f : Frame := ⟨h, a, b, c, Config.fcps.ck h a b c⟩
    exec (.pack h a b c) s = .next { s with reply := some ⟨.ok, some (.frame f)⟩ } ∧
    exec (.validate f) u = .next { u with reply := some ⟨.ok, none⟩ }) ∧
  (∀ (v : Variant) (arg : Payload) (s u : State),
    let h := Config.fcps.hdr v
    let p := Config.fcps.payload v arg
    let a := p.extractLsb' 16 8
    let b := p.extractLsb' 8 8
    let c := p.extractLsb' 0 8
    let f : Frame := ⟨h, a, b, c, Config.fcps.ck h a b c⟩
    exec (Instr.enc v arg) s = .next { s with reply := some ⟨.ok, some (.frame f)⟩ } ∧
    exec (.validate f) u = .next { u with reply := some ⟨.ok, none⟩ })

/-- R104: `PACK`. -/
def Obligations.PackBuildsTheFrame : Prop :=
  Selects 0x010 0x1F0 (fun p => .pack p.h p.d1 p.d2 p.d3) ∧
  ∀ (h d1 d2 d3 : Byte) (s : State),
    exec (.pack h d1 d2 d3) s =
      .next { s with reply := some ⟨.ok, some (.frame ⟨h, d1, d2, d3, Config.fcps.ck h d1 d2 d3⟩)⟩ } ∧
    ValidFrame Config.fcps.ck ⟨h, d1, d2, d3, Config.fcps.ck h d1 d2 d3⟩

/-- R105: `UNPACK`, valid frame or not. -/
def Obligations.UnpackGivesTheFields : Prop :=
  Selects 0x020 0x1F0 (fun p => .unpack p.f) ∧
  ∀ (f : Frame) (s : State),
    exec (.unpack f) s =
      .next { s with reply := some ⟨.ok, some (.fields f.header f.datum1 f.datum2 f.datum3 f.checksum)⟩ }

/-- R106: `CKSUM`. -/
def Obligations.CksumGivesTheChecksum : Prop :=
  Selects 0x030 0x1F0 (fun p => .cksum p.h p.d1 p.d2 p.d3) ∧
  ∀ (h d1 d2 d3 : Byte) (s : State),
    exec (.cksum h d1 d2 d3) s = .next { s with reply := some ⟨.ok, some (.byte (Config.fcps.ck h d1 d2 d3))⟩ }

/-- R108: `VALIDATE` answers OK exactly when the computed checksum is the trailing byte, else `CHECKSUM_MISMATCH`; for
every choice of the first four bytes exactly one trailing byte is valid, so exactly 2^32 of the 2^40 frames are. -/
def Obligations.ValidateComparesTheChecksum : Prop :=
  Selects 0x040 0x1F0 (fun p => .validate p.f) ∧
  (∀ (f : Frame) (s : State),
    (Config.fcps.ck f.header f.datum1 f.datum2 f.datum3 = f.checksum →
      exec (.validate f) s = .next { s with reply := some ⟨.ok, none⟩ }) ∧
    (Config.fcps.ck f.header f.datum1 f.datum2 f.datum3 ≠ f.checksum →
      exec (.validate f) s = .next { s with reply := some ⟨.checksumMismatch, none⟩ })) ∧
  (∀ h a b c : Byte, ∃ k : Byte, ∀ (k' : Byte) (s : State),
    exec (.validate ⟨h, a, b, c, k'⟩) s = .next { s with reply := some ⟨.ok, none⟩ } ↔ k' = k) ∧
  (∀ ck : Checksum, Nat.card { f : Frame // ValidFrame ck f } = 2 ^ 32)

/-- R110: `UNPACK` of what `PACK` delivers; and `PACK` of a frame's first four bytes gives the frame back if and only
if `VALIDATE` answers OK to it. -/
def Obligations.UnpackInvertsPack : Prop :=
  (∀ (h a b c : Byte) (s u : State), ∃ f : Frame,
    exec (.pack h a b c) s = .next { s with reply := some ⟨.ok, some (.frame f)⟩ } ∧
    exec (.unpack f) u = .next { u with reply := some ⟨.ok, some (.fields h a b c (Config.fcps.ck h a b c))⟩ }) ∧
  (∀ (f : Frame) (h a b c k : Byte) (s t u : State),
    exec (.unpack f) s = .next { s with reply := some ⟨.ok, some (.fields h a b c k)⟩ } →
    (exec (.pack h a b c) t = .next { t with reply := some ⟨.ok, some (.frame f)⟩ } ↔
      exec (.validate f) u = .next { u with reply := some ⟨.ok, none⟩ }))

/-- R111: under `CK_SENSITIVE` a mutation of exactly one of the first four bytes of a valid frame is rejected; without
it the rejection can fail (a constant `CK` accepts every such mutation); XOR8 and SUM8 are sensitive; a mutation of the checksum byte is rejected whatever `CK` is.
`VALIDATE` answers as `checkFrame` does with the machine's `CK`. -/
def Obligations.ChecksumRejection : Prop :=
  (∀ (ck : Checksum) (f f' : Frame), CkSensitive ck → checkFrame ck f = .ok f → MutatesOneByte f f' →
    checkFrame ck f' = .error .checksumMismatch) ∧
  (∀ (k : Byte) (f f' : Frame), checkFrame (fun _ _ _ _ => k) f = .ok f → MutatesOneByte f f' →
    checkFrame (fun _ _ _ _ => k) f' = .ok f') ∧
  CkSensitive (fun h a b c => h ^^^ a ^^^ b ^^^ c) ∧
  CkSensitive (fun h a b c => h + a + b + c) ∧
  (∀ (ck : Checksum) (f : Frame) (k : Byte), checkFrame ck f = .ok f → k ≠ f.checksum →
    checkFrame ck { f with checksum := k } = .error .checksumMismatch) ∧
  (∀ (f : Frame) (s : State),
    exec (.validate f) s = .next { s with
      reply := some ⟨(match checkFrame Config.fcps.ck f with | .ok _ => .ok | .error st => st), none⟩ })

/-- R22, R112: every operation of the codec completes on every operand, changes nothing but the reply, and gives the
same results at any time, whatever the state. Covers all 24 operations with `isFcu`. -/
def Obligations.CodecIsPureAndTotal : Prop :=
  ∀ i : Instr, i.isFcu = true → ∃ c : Completion, ∀ s : State, exec i s = .next { s with reply := some c }

/-! ### Byte and integer forms -/

/-- R121, R122: `F2B` and `B2F`, no checksum looked at. -/
def Obligations.FrameToBytesAndBack : Prop :=
  Selects 0x050 0x1F0 (fun p => .f2b p.f) ∧
  Selects 0x060 0x1F0 (fun p => .b2f p.b) ∧
  (∀ (f : Frame) (s : State),
    exec (.f2b f) s =
      .next { s with
        reply := some ⟨.ok, some (.bytes #v[f.header, f.datum1, f.datum2, f.datum3, f.checksum])⟩ }) ∧
  (∀ (b : Bytes5) (s : State),
    exec (.b2f b) s = .next { s with reply := some ⟨.ok, some (.frame ⟨b[0], b[1], b[2], b[3], b[4]⟩)⟩ })

/-- R123: the byte round trip, both ways, for every frame, valid or not. -/
def Obligations.ByteRoundTrip : Prop :=
  (∀ (f : Frame) (s u : State), ∃ b : Bytes5,
    exec (.f2b f) s = .next { s with reply := some ⟨.ok, some (.bytes b)⟩ } ∧
    exec (.b2f b) u = .next { u with reply := some ⟨.ok, some (.frame f)⟩ }) ∧
  (∀ (b : Bytes5) (s u : State), ∃ f : Frame,
    exec (.b2f b) s = .next { s with reply := some ⟨.ok, some (.frame f)⟩ } ∧
    exec (.f2b f) u = .next { u with reply := some ⟨.ok, some (.bytes b)⟩ })

/-- R126: `DECB`: the length first, then the checksum; no frame with an error. -/
def Obligations.DecbChecksLengthThenChecksum : Prop :=
  Selects 0x070 0x1F0 (fun p => .decb p.bs) ∧
  (∀ (bs : ByteSeq) (s : State), bs.length ≠ 5 →
    exec (.decb bs) s = .next { s with reply := some ⟨.wrongLength, none⟩ }) ∧
  (∀ (h a b c k : Byte) (s : State), Config.fcps.ck h a b c ≠ k →
    exec (.decb [h, a, b, c, k]) s = .next { s with reply := some ⟨.checksumMismatch, none⟩ }) ∧
  (∀ (h a b c k : Byte) (s : State), Config.fcps.ck h a b c = k →
    exec (.decb [h, a, b, c, k]) s = .next { s with reply := some ⟨.ok, some (.frame ⟨h, a, b, c, k⟩)⟩ })

/-- R127: `DECB` of `F2B`, and what a sequence that `DECB` accepts is. -/
def Obligations.DecbInvertsFrameToBytes : Prop :=
  (∀ (f : Frame) (s u : State), ∃ b : Bytes5,
    exec (.f2b f) s = .next { s with reply := some ⟨.ok, some (.bytes b)⟩ } ∧
    (ValidFrame Config.fcps.ck f →
      exec (.decb b.toList) u = .next { u with reply := some ⟨.ok, some (.frame f)⟩ }) ∧
    (¬ValidFrame Config.fcps.ck f →
      exec (.decb b.toList) u = .next { u with reply := some ⟨.checksumMismatch, none⟩ })) ∧
  (∀ (bs : ByteSeq) (f : Frame) (s u : State),
    exec (.decb bs) s = .next { s with reply := some ⟨.ok, some (.frame f)⟩ } →
    bs.length = 5 ∧ ∃ b : Bytes5,
      exec (.f2b f) u = .next { u with reply := some ⟨.ok, some (.bytes b)⟩ } ∧ b.toList = bs)

/-- R128, R129: `F2I` is the concatenation, header most significant, equally the weighted sum; `I2F` cuts it again. -/
def Obligations.FrameToIntegerAndBack : Prop :=
  Selects 0x080 0x1F0 (fun p => .f2i p.f) ∧
  Selects 0x090 0x1F0 (fun p => .i2f p.n) ∧
  (∀ (f : Frame) (s : State), ∃ n : Int40,
    exec (.f2i f) s = .next { s with reply := some ⟨.ok, some (.int n)⟩ } ∧
    n = f.header ++ f.datum1 ++ f.datum2 ++ f.datum3 ++ f.checksum ∧
    n.toNat = f.header.toNat * 2 ^ 32 + f.datum1.toNat * 2 ^ 24 + f.datum2.toNat * 2 ^ 16 +
      f.datum3.toNat * 2 ^ 8 + f.checksum.toNat) ∧
  (∀ (n : Int40) (s : State),
    exec (.i2f n) s =
      .next { s with
        reply := some ⟨.ok, some (.frame ⟨n.extractLsb' 32 8, n.extractLsb' 24 8, n.extractLsb' 16 8,
          n.extractLsb' 8 8, n.extractLsb' 0 8⟩)⟩ })

/-- R130: the integer round trip, both ways, and `F2B(I2F(n))[i] = n[39-8i : 32-8i]`. -/
def Obligations.IntegerRoundTrip : Prop :=
  (∀ (f : Frame) (s u : State), ∃ n : Int40,
    exec (.f2i f) s = .next { s with reply := some ⟨.ok, some (.int n)⟩ } ∧
    exec (.i2f n) u = .next { u with reply := some ⟨.ok, some (.frame f)⟩ }) ∧
  (∀ (n : Int40) (s u v : State), ∃ (f : Frame) (b : Bytes5),
    exec (.i2f n) s = .next { s with reply := some ⟨.ok, some (.frame f)⟩ } ∧
    exec (.f2i f) u = .next { u with reply := some ⟨.ok, some (.int n)⟩ } ∧
    exec (.f2b f) v = .next { v with reply := some ⟨.ok, some (.bytes b)⟩ } ∧
    ∀ (i : Nat) (hi : i < 5), b[i] = n.extractLsb' (32 - 8 * i) 8)

/-- R54: the byte form, the integer form and the text form of one frame show the same bits. -/
def Obligations.MixedWidthViewsAgree : Prop :=
  ∀ (f : Frame) (s : State), ∃ (b : Bytes5) (n : Int40) (t : Text),
    exec (.f2b f) s = .next { s with reply := some ⟨.ok, some (.bytes b)⟩ } ∧
    exec (.f2i f) s = .next { s with reply := some ⟨.ok, some (.int n)⟩ } ∧
    exec (.f2h f) s = .next { s with reply := some ⟨.ok, some (.text t)⟩ } ∧
    (∀ (i : Nat) (hi : i < 5), b[i] = n.extractLsb' (32 - 8 * i) 8) ∧
    (∀ i : Nat, i < 10 → t[i]? = some (hexChar (n.extractLsb' (36 - 4 * i) 4)))

/-! ### Hexadecimal text -/

/-- R141, R142: the digit codes of either direction. The codes are ASCII's, which the spec takes from general knowledge
(assumption 15). -/
def Obligations.HexDigitCodes : Prop :=
  (∀ ch : Byte,
    (0x30 ≤ ch.toNat → ch.toNat ≤ 0x39 → hexVal ch = some (ch.toNat - 0x30)) ∧
    (0x41 ≤ ch.toNat → ch.toNat ≤ 0x46 → hexVal ch = some (ch.toNat - 0x41 + 10)) ∧
    (0x61 ≤ ch.toNat → ch.toNat ≤ 0x66 → hexVal ch = some (ch.toNat - 0x61 + 10)) ∧
    (¬(0x30 ≤ ch.toNat ∧ ch.toNat ≤ 0x39) → ¬(0x41 ≤ ch.toNat ∧ ch.toNat ≤ 0x46) →
      ¬(0x61 ≤ ch.toNat ∧ ch.toNat ≤ 0x66) → hexVal ch = none)) ∧
  (∀ n : BitVec 4,
    (n.toNat ≤ 9 → (hexChar n).toNat = 0x30 + n.toNat) ∧
    (10 ≤ n.toNat → (hexChar n).toNat = 0x41 + n.toNat - 10) ∧
    hexVal (hexChar n) = some n.toNat)

/-- R143, R144: `F2H`: ten characters, most significant nibble first, not checked. -/
def Obligations.FrameToHexSpellsTheInteger : Prop :=
  Selects 0x0A0 0x1F0 (fun p => .f2h p.f) ∧
  ∀ (f : Frame) (s : State), ∃ t : Text,
    exec (.f2h f) s = .next { s with reply := some ⟨.ok, some (.text t)⟩ } ∧
    t.length = 10 ∧
    ∀ i : Nat, i < 10 →
      t[i]? = some (hexChar
        ((f.header ++ f.datum1 ++ f.datum2 ++ f.datum3 ++ f.checksum : Int40).extractLsb' (36 - 4 * i) 4))

/-- R145: length ten, only `0` to `9` and `A` to `F` (codes of assumption 15), injective. -/
def Obligations.HexTextIsUpperCaseAndInjective : Prop :=
  (∀ (f : Frame) (s : State), ∃ t : Text,
    exec (.f2h f) s = .next { s with reply := some ⟨.ok, some (.text t)⟩ } ∧ t.length = 10 ∧
    ∀ ch ∈ t, (0x30 ≤ ch.toNat ∧ ch.toNat ≤ 0x39) ∨ (0x41 ≤ ch.toNat ∧ ch.toNat ≤ 0x46)) ∧
  (∀ (f g : Frame) (t : Text) (s : State),
    exec (.f2h f) s = .next { s with reply := some ⟨.ok, some (.text t)⟩ } →
    exec (.f2h g) s = .next { s with reply := some ⟨.ok, some (.text t)⟩ } → f = g)

/-- R146: `H2F`: length, digits, checksum, in that order; the positional sum; no frame with an error. -/
def Obligations.HexToFrameChecksThenDecodes : Prop :=
  Selects 0x0B0 0x1F0 (fun p => .h2f p.text) ∧
  (∀ (t : Text) (s : State), t.length ≠ 10 ∨ (∃ ch ∈ t, hexVal ch = none) →
    exec (.h2f t) s = .next { s with reply := some ⟨.wrongLength, none⟩ }) ∧
  (∀ (t : Text) (s : State), t.length = 10 → (∀ ch ∈ t, hexVal ch ≠ none) →
    let n := ((List.range 10).map fun i => ((t[i]?.bind hexVal).getD 0) * 16 ^ (9 - i)).sum
    let w := BitVec.ofNat 40 n
    let f : Frame := ⟨w.extractLsb' 32 8, w.extractLsb' 24 8, w.extractLsb' 16 8, w.extractLsb' 8 8, w.extractLsb' 0 8⟩
    n < 2 ^ 40 ∧
    (Config.fcps.ck f.header f.datum1 f.datum2 f.datum3 ≠ f.checksum →
      exec (.h2f t) s = .next { s with reply := some ⟨.checksumMismatch, none⟩ }) ∧
    (Config.fcps.ck f.header f.datum1 f.datum2 f.datum3 = f.checksum →
      exec (.h2f t) s = .next { s with reply := some ⟨.ok, some (.frame f)⟩ }))

/-- R147: the hex round trip; decode then encode gives the text in upper case; case never matters; the digit
conversion alone is a bijection (codes of assumption 15). -/
def Obligations.HexRoundTrip : Prop :=
  (∀ (f : Frame) (s u : State), ∃ t : Text,
    exec (.f2h f) s = .next { s with reply := some ⟨.ok, some (.text t)⟩ } ∧
    (ValidFrame Config.fcps.ck f →
      exec (.h2f t) u = .next { u with reply := some ⟨.ok, some (.frame f)⟩ }) ∧
    (¬ValidFrame Config.fcps.ck f →
      exec (.h2f t) u = .next { u with reply := some ⟨.checksumMismatch, none⟩ })) ∧
  (∀ (t : Text) (f : Frame) (s u : State),
    exec (.h2f t) s = .next { s with reply := some ⟨.ok, some (.frame f)⟩ } →
    exec (.f2h f) u = .next { u with reply := some ⟨.ok, some (.text (t.map upperCase))⟩ }) ∧
  (∀ (t t' : Text) (s : State), t.map upperCase = t'.map upperCase → exec (.h2f t) s = exec (.h2f t') s) ∧
  (∀ t : Text, t.length = 10 →
    (∀ ch ∈ t, (0x30 ≤ ch.toNat ∧ ch.toNat ≤ 0x39) ∨ (0x41 ≤ ch.toNat ∧ ch.toNat ≤ 0x46)) →
    ∃ f : Frame, ∀ (g : Frame) (s : State),
      exec (.f2h g) s = .next { s with reply := some ⟨.ok, some (.text t)⟩ } ↔ g = f)

/-- R148: what `H2F` rejects: any other length (so the empty text, `0x` prefixes, separators, a trailing space, newline
or NUL), and ten characters with a space, `g`, `G`, `x`, `+`, `-`, `.` or a code of 0x80 or more among them (codes of
assumption 15). -/
def Obligations.RejectedTexts : Prop :=
  ∀ (t : Text) (s : State),
    t.length < 10 ∨ 10 < t.length ∨ 0x20 ∈ t ∨ 0x67 ∈ t ∨ 0x47 ∈ t ∨ 0x78 ∈ t ∨ 0x2B ∈ t ∨ 0x2D ∈ t ∨ 0x2E ∈ t ∨
      (∃ ch ∈ t, 0x80 ≤ ch.toNat) →
    exec (.h2f t) s = .next { s with reply := some ⟨.wrongLength, none⟩ }

/-! ### Phase sequencer -/

/-- R162: `START` in WAIT latches the durations and enters WARMUP, emitting nothing; elsewhere it is refused. -/
def Obligations.StartOpensTheRun : Prop :=
  Selects 0x100 0x1F0 (fun p => .start p.ws p.ls p.cs) ∧
  ∀ (ws ls cs : Seconds) (s : State),
    (s.phase = .wait →
      exec (.start ws ls cs) s =
        .next { s with durations := some ⟨ws, ls, cs⟩, phase := .warmup, reply := some ⟨.ok, none⟩ }) ∧
    (s.phase ≠ .wait → exec (.start ws ls cs) s = .next { s with reply := some ⟨.refused, none⟩ })

/-- R164: `CLASSIFY` with `DV = 1`: the phase by the boundaries `W_END`, `L_END`, exact; it changes nothing but the
reply. With `DV = 0` it is refused. -/
def Obligations.ClassifyGivesThePhase : Prop :=
  Selects 0x110 0x1F0 (fun p => .classify p.t) ∧
  (∀ (t : Seconds) (s : State) (d : Durations), s.durations = some d →
    exec (.classify t) s =
      .next { s with
        reply := some ⟨.ok, some (.phase (
          if t.toNat < d.wsec.toNat then .warmup
          else if d.wsec.toNat ≤ t.toNat ∧ t.toNat < d.wsec.toNat + d.lsec.toNat then .lase
          else .cool))⟩ }) ∧
  (∀ (t : Seconds) (s : State), s.dv = false →
    exec (.classify t) s = .next { s with reply := some ⟨.refused, none⟩ })

/-- R165 (a) to (g), of the function that `CLASSIFY` and `TICK` share. -/
def Obligations.ClassifyProperties : Prop :=
  (∀ d t, classifyTime d t = .warmup ∨ classifyTime d t = .lase ∨ classifyTime d t = .cool) ∧
  (∀ d t₁ t₂, t₁ ≤ t₂ → phaseRank (classifyTime d t₁) ≤ phaseRank (classifyTime d t₂)) ∧
  (∀ (d : Durations) (t : Seconds),
    (t.toNat = d.wsec.toNat → 0 < d.lsec.toNat → classifyTime d t = .lase) ∧
    (t.toNat = d.wsec.toNat + d.lsec.toNat → classifyTime d t = .cool)) ∧
  (∀ d t, d.wsec = 0 → classifyTime d t ≠ .warmup) ∧
  (∀ d t, d.lsec = 0 → classifyTime d t ≠ .lase) ∧
  (∀ (d : Durations) (t : Seconds), d.wsec.toNat + d.lsec.toNat + d.csec.toNat ≤ t.toNat → classifyTime d t = .cool) ∧
  (∀ d t c, classifyTime { d with csec := c } t = classifyTime d t)

/-- R166: while `DV = 0`, `CLASSIFY` and `TICK` are refused: nothing changes and no phase is returned. -/
def Obligations.RefusedBeforeStart : Prop :=
  ∀ (t : Seconds) (s : State), s.dv = false →
    exec (.classify t) s = .next { s with reply := some ⟨.refused, none⟩ } ∧
    exec (.tick t) s = .next { s with reply := some ⟨.refused, none⟩ }

/-- R27: the three boundaries are exact sums of the durations, below 2^34, in order; R161: the largest durations do not
wrap, and a time equal to a boundary belongs to the later phase. -/
def Obligations.BoundariesAreExactSums : Prop :=
  (∀ d : Durations,
    d.wEnd = d.wsec.toNat ∧ d.lEnd = d.wsec.toNat + d.lsec.toNat ∧
    d.cEnd = d.wsec.toNat + d.lsec.toNat + d.csec.toNat ∧
    d.wEnd ≤ d.lEnd ∧ d.lEnd ≤ d.cEnd ∧ d.cEnd < 2 ^ 34) ∧
  (∀ (d : Durations) (t : Seconds),
    (classifyTime d t = .warmup ↔ t.toNat < d.wEnd) ∧
    (classifyTime d t = .lase ↔ d.wEnd ≤ t.toNat ∧ t.toNat < d.lEnd) ∧
    (classifyTime d t = .cool ↔ d.lEnd ≤ t.toNat)) ∧
  classifyTime ⟨4294967295, 4294967295, 4294967295⟩ 4294967294 = .warmup ∧
  classifyTime ⟨4294967295, 4294967295, 4294967295⟩ 4294967295 = .lase

/-- R169, R170, R172, R173, R174: an accepted `TICK` follows the transition table, emits exactly the table's commands
in their order, and updates the phase; refused with `DV = 0` and in QUIT. The table holds of the operation for every
value of the parameters (R6), so for every `DUTY_HALF`; the modelled block's is the default 128. -/
def Obligations.TickFollowsTheTransitionTable : Prop :=
  Selects 0x120 0x1F0 (fun p => .tick p.t) ∧ Config.fcps.dutyHalf = 128 ∧
  (∀ (t : Seconds) (s : State) (d : Durations), s.durations = some d → s.phase ≠ .quit →
    let new : Phase :=
      if t.toNat < d.wsec.toNat then .warmup
      else if d.wsec.toNat ≤ t.toNat ∧ t.toNat < d.wsec.toNat + d.lsec.toNat then .lase
      else .cool
    let done : Option Completion := some ⟨.ok, some (.phase new)⟩
    let after (cfg : Config) : State :=
      if new = s.phase then { s with reply := done }
      else if s.phase = .warmup ∧ new = .lase then
        { s with
          outlog := s.outlog ++ [.writeDigital .pulse 0, .writeDigital .enable 1, .delay cfg.settleUs,
            .setPwmFrequency .pulse cfg.laserHz, .setPwmDuty .pulse cfg.dutyHalf],
          oPl := some 0, oEn := some 1, pwmHz := some cfg.laserHz, pwmDuty := some cfg.dutyHalf,
          phase := .lase, reply := done }
      else if s.phase = .lase ∧ new = .cool then
        { s with
          outlog := s.outlog ++ [.setPwmDuty .pulse 0, .writeDigital .enable 0],
          pwmDuty := some 0, oEn := some 0, phase := .cool, reply := done }
      else { s with phase := new, reply := done }
    (∀ cfg : Config, tick cfg t s = after cfg) ∧ exec (.tick t) s = .next (after Config.fcps)) ∧
  (∀ (t : Seconds) (s : State), s.dv = false ∨ s.phase = .quit →
    exec (.tick t) s = .next { s with reply := some ⟨.refused, none⟩ })

/-- R171: in QUIT every `TICK` and every `START` is refused; no operation but `QUIT` changes anything but the reply, and
a further `QUIT` completes and stays in QUIT. -/
def Obligations.QuitIsTerminal : Prop :=
  ∀ s : State, s.phase = .quit →
    (∀ t, exec (.tick t) s = .next { s with reply := some ⟨.refused, none⟩ }) ∧
    (∀ ws ls cs, exec (.start ws ls cs) s = .next { s with reply := some ⟨.refused, none⟩ }) ∧
    (∀ i, i ≠ .quit → ∃ c, exec i s = .next { s with reply := some c }) ∧
    (∃ t, exec .quit s = .next t ∧ t.phase = .quit ∧ t.reply = some ⟨.ok, none⟩)

/-- R175: `QUIT`, in every phase: the two commands in order, whatever the latches hold, then QUIT. -/
def Obligations.QuitForcesTheOutputsOff : Prop :=
  Selects 0x130 0x1F0 (fun _ => .quit) ∧
  ∀ s : State,
    exec .quit s =
      .next { s with
        outlog := s.outlog ++ [.setPwmDuty .pulse 0, .writeDigital .enable 0],
        pwmDuty := some 0, oEn := some 0, phase := .quit, reply := some ⟨.ok, none⟩ }

/-- R176: after any `QUIT`, from any state, `SAFE` holds, and it holds after every number of further steps in which the
host does not reset the block. No premise on the times. -/
def Obligations.ShutdownHoldsUntilReset : Prop :=
  ∀ (s : State) (k : Nat), .reset ∉ s.inbox →
    ∃ t u, exec .quit s = .next t ∧ Safe t ∧ afterSteps k t = some u ∧ Safe u ∧ u.phase = .quit

/-- R177: exactly once. In a run from reset whose `TICK` times never decrease, `OUTLOG` holds at most one PWM start, one
enable-high and one five-command sequence, and exactly one of each if and only if some `TICK` found WARMUP stored and a
time in the LASE interval. -/
def Obligations.LaserStartsExactlyOnce : Prop :=
  ∀ (es : List HostEvent), .reset ∉ es → MonotoneT es →
    ∀ (k : Nat) (s : State), afterSteps k (State.reset.issue es) = some s →
      let fired := ∃ j u, j < k ∧ afterSteps j (State.reset.issue es) = some u ∧ FiresLaser u
      (s.outlog.countP isPwmStart ≤ 1 ∧ s.outlog.count (.writeDigital .enable 1) ≤ 1 ∧
        occurrences (startLaser Config.fcps) s.outlog ≤ 1) ∧
      (s.outlog.countP isPwmStart = 1 ↔ fired) ∧
      (s.outlog.count (.writeDigital .enable 1) = 1 ↔ fired) ∧
      (occurrences (startLaser Config.fcps) s.outlog = 1 ↔ fired)

/-- R179: a backward change of phase is a state update only; LASE to WARMUP leaves the outputs as they were, and a later
WARMUP to LASE change emits the five commands a second time. -/
def Obligations.BackwardTimeIsTakenLiterally : Prop :=
  (∀ (t : Seconds) (s : State) (d : Durations), s.durations = some d → s.phase ≠ .quit →
    phaseRank (classifyTime d t) < phaseRank s.phase →
    exec (.tick t) s =
      .next { s with phase := classifyTime d t, reply := some ⟨.ok, some (.phase (classifyTime d t))⟩ }) ∧
  (∀ (t₁ t₂ : Seconds) (s : State) (d : Durations), s.durations = some d → s.phase = .lase →
    t₁.toNat < d.wEnd → d.wEnd ≤ t₂.toNat → t₂.toNat < d.lEnd →
    ∃ u v, exec (.tick t₁) s = .next u ∧ u.phase = .warmup ∧ u.outlog = s.outlog ∧ u.oEn = s.oEn ∧
      u.pwmDuty = s.pwmDuty ∧
      exec (.tick t₂) u = .next v ∧ v.phase = .lase ∧
      v.outlog = s.outlog ++ [.writeDigital .pulse 0, .writeDigital .enable 1, .delay Config.fcps.settleUs,
        .setPwmFrequency .pulse Config.fcps.laserHz, .setPwmDuty .pulse Config.fcps.dutyHalf])

/-- R180: in every state reached from reset by operations whose `TICK` times never decrease, the outputs are driven in
LASE and not energized elsewhere, so the state is energized exactly when `PHASE = LASE` (R180's premise on `DUTY_HALF`
holds: its default is not 0). -/
def Obligations.OutputsFollowPhaseInMonotoneRuns : Prop :=
  ∀ (es : List HostEvent), .reset ∉ es → MonotoneT es →
    ∀ (k : Nat) (s : State), afterSteps k (State.reset.issue es) = some s →
      (s.phase = .lase → s.oEn = some 1 ∧ s.oPl = some 0 ∧ s.pwmHz = some Config.fcps.laserHz ∧
        s.pwmDuty = some Config.fcps.dutyHalf) ∧
      (s.phase ≠ .lase → (s.oEn = none ∨ s.oEn = some 0) ∧ (s.pwmDuty = none ∨ s.pwmDuty = some 0)) ∧
      (Energized s ↔ s.phase = .lase)

/-! ### Invariants and whole-machine rules -/

/-- The invariant behind R177 and R180, kept by every step whose `TICK`, if it is one, presents no earlier time. -/
def Obligations.OnTimeIsKeptByEveryStep : Prop :=
  ∀ (now : Seconds) (s t : State), OnTime now s →
    (∀ e time, s.inbox.head? = some e → tickTime e = some time → now ≤ time) →
    step s = .next t → OnTime ((s.inbox.head?.bind tickTime).getD now) t

/-- The invariant of R25, R28 to R35, R170, R176, R178, kept by every step, whatever the host does. -/
def Obligations.CoherenceIsKeptByEveryStep : Prop :=
  ∀ s t : State, Coherent s → step s = .next t → Coherent t

/-- Both invariants hold at reset, whatever the host has issued. -/
def Obligations.ResetStateMeetsTheInvariants : Prop :=
  ∀ (es : List HostEvent) (now : Seconds), Coherent (State.reset.issue es) ∧ OnTime now (State.reset.issue es)

/-- R23, R35: only the listed operations write each state element; no operation writes the shutter latch; the latches
and `OUTLOG` change only in `TICK` and `QUIT`. -/
def Obligations.OnlyListedOperationsWriteState : Prop :=
  ∀ (i : Instr) (s : State), ∃ t, exec i s = .next t ∧
    let isStart := ∃ ws ls cs, i = .start ws ls cs
    let isTick := ∃ time, i = .tick time
    let isQuit := i = .quit
    (t.phase ≠ s.phase → isStart ∨ isTick ∨ isQuit) ∧
    (t.durations ≠ s.durations → isStart) ∧
    (t.oEn ≠ s.oEn → isTick ∨ isQuit) ∧
    t.oSh = s.oSh ∧
    (t.oPl ≠ s.oPl → isTick) ∧
    (t.pwmHz ≠ s.pwmHz → isTick) ∧
    (t.pwmDuty ≠ s.pwmDuty → isTick ∨ isQuit) ∧
    (t.outlog ≠ s.outlog → isTick ∨ isQuit) ∧
    t.inbox = s.inbox

/-- R28 to R32: when each latch changes and to what; and in every state reached from reset the latches record the last
command, the shutter latch holds no value, and the others only the values the rules name. -/
def Obligations.LatchesHoldTheLastCommand : Prop :=
  (∀ (i : Instr) (s : State), ∃ t, exec i s = .next t ∧
    let fires := (∃ time, i = .tick time) ∧ s.phase = .warmup ∧ t.phase = .lase
    let cools := (∃ time, i = .tick time) ∧ s.phase = .lase ∧ t.phase = .cool
    (t.oEn ≠ s.oEn → (t.oEn = some 1 ∧ fires) ∨ (t.oEn = some 0 ∧ (cools ∨ i = .quit))) ∧
    t.oSh = s.oSh ∧
    (t.oPl ≠ s.oPl → t.oPl = some 0 ∧ fires) ∧
    (t.pwmHz ≠ s.pwmHz → t.pwmHz = some Config.fcps.laserHz ∧ fires) ∧
    (t.pwmDuty ≠ s.pwmDuty →
      (t.pwmDuty = some Config.fcps.dutyHalf ∧ fires) ∨ (t.pwmDuty = some 0 ∧ (cools ∨ i = .quit)))) ∧
  (∀ (es : List HostEvent) (k : Nat), ∃ s, afterSteps k (State.reset.issue es) = some s ∧
    LatchesRecord s ∧ s.oSh = none ∧ (s.oPl = none ∨ s.oPl = some 0) ∧
    (s.pwmHz = none ∨ s.pwmHz = some Config.fcps.laserHz) ∧
    (s.pwmDuty = none ∨ s.pwmDuty = some 0 ∨ s.pwmDuty = some Config.fcps.dutyHalf))

/-- R25, R26: `DV` becomes 1 only by an accepted `START`, no operation clears it, and once written the durations never
change. The last clause rests on the invariant `Coherent`. -/
def Obligations.DurationsAreWrittenOnce : Prop :=
  ∀ (i : Instr) (s : State), ∃ t, exec i s = .next t ∧
    (s.dv = false → t.dv = true →
      ∃ ws ls cs, i = .start ws ls cs ∧ t.durations = some ⟨ws, ls, cs⟩ ∧ t.reply = some ⟨.ok, none⟩) ∧
    (s.dv = true → t.dv = true) ∧
    (Coherent s → s.dv = true → t.durations = s.durations)

/-- R59, R178: every operation leaves the earlier commands in place and appends none, the five of R172 or the two of R173;
none names the shutter; no sequencer operation delivers a frame. -/
def Obligations.CommandsAreAppendedInOrder : Prop :=
  ∀ (i : Instr) (s : State), ∃ t cmds, exec i s = .next t ∧ t.outlog = s.outlog ++ cmds ∧
    (cmds = [] ∨
      cmds = [.writeDigital .pulse 0, .writeDigital .enable 1, .delay Config.fcps.settleUs,
        .setPwmFrequency .pulse Config.fcps.laserHz, .setPwmDuty .pulse Config.fcps.dutyHalf] ∨
      cmds = [.setPwmDuty .pulse 0, .writeDigital .enable 0]) ∧
    (∀ cmd ∈ cmds, lineOf cmd ≠ some .shutter) ∧
    (i.isFcu = false → ∀ st f, t.reply ≠ some ⟨st, some (.frame f)⟩)

/-- R200: the block never stops: every step answers a next state, and every operation completes with a status. -/
def Obligations.EveryOperationCompletes : Prop :=
  (∀ s : State, ∃ t, step s = .next t) ∧
  (∀ (i : Instr) (s : State), ∃ t c, exec i s = .next t ∧ t.reply = some c)

/-- R209: a completion with a status other than OK delivers no value and leaves the state and `OUTLOG` as they were; the
operations that emit never end in `WRONG_LENGTH` or `CHECKSUM_MISMATCH`. -/
def Obligations.ErrorResultsArePrecise : Prop :=
  ∀ (i : Instr) (s : State), ∃ t c, exec i s = .next t ∧ t.reply = some c ∧
    (c.status ≠ .ok → t = { s with reply := some ⟨c.status, none⟩ }) ∧
    ((∃ time, i = .tick time) ∨ i = .quit → c.status ≠ .wrongLength ∧ c.status ≠ .checksumMismatch)

/-- R201: the complete causes of `WRONG_LENGTH`. -/
def Obligations.WrongLengthCauses : Prop :=
  ∀ (i : Instr) (s : State), ∃ t c, exec i s = .next t ∧ t.reply = some c ∧
    (c.status = .wrongLength ↔
      (∃ bs, i = .decb bs ∧ bs.length ≠ 5) ∨
      (∃ text, i = .h2f text ∧ (text.length ≠ 10 ∨ ∃ ch ∈ text, hexVal ch = none))) ∧
    (c.status = .wrongLength → c.value = none ∧ t = { s with reply := some c })

/-- R202: the complete causes of `CHECKSUM_MISMATCH`; a text spells a frame when its upper-case form is the frame's. -/
def Obligations.ChecksumMismatchCauses : Prop :=
  ∀ (i : Instr) (s : State), ∃ t c, exec i s = .next t ∧ t.reply = some c ∧
    (c.status = .checksumMismatch ↔
      ∃ f : Frame, Config.fcps.ck f.header f.datum1 f.datum2 f.datum3 ≠ f.checksum ∧
        (i = .validate f ∨ i = .decb [f.header, f.datum1, f.datum2, f.datum3, f.checksum] ∨
          ∃ text, i = .h2f text ∧ text.map upperCase = frameToHex f)) ∧
    (c.status = .checksumMismatch → c.value = none ∧ t = { s with reply := some c })

/-- R203: the complete causes of `REFUSED`, and that it changes nothing. -/
def Obligations.RefusedCauses : Prop :=
  ∀ (s : State) (r : Request) (rest : List HostEvent), s.inbox = .op r :: rest →
    ∃ t c, step s = .next t ∧ t.reply = some c ∧
      (c.status = .refused ↔
        (0x0C ≤ r.op.toNat ∧ r.op.toNat ≤ 0x0F) ∨ (0x14 ≤ r.op.toNat ∧ r.op.toNat ≤ 0x1F) ∨
        (r.op.toNat = 0x00 ∧ 13 ≤ r.var.toNat) ∨
        (r.op.toNat = 0x10 ∧ s.phase ≠ .wait) ∨
        (r.op.toNat = 0x11 ∧ s.dv = false) ∨
        (r.op.toNat = 0x12 ∧ s.dv = false) ∨
        (r.op.toNat = 0x12 ∧ s.phase = .quit)) ∧
      (c.status = .refused → t = { s with inbox := rest, reply := some ⟨.refused, none⟩ })

/-- R231: reset is the only way out of QUIT, and only reset restores WAIT, the one phase in which `START` is accepted. -/
def Obligations.OnlyResetLeavesQuit : Prop :=
  ∀ s : State, ∃ t, step s = .next t ∧
    (s.phase = .quit → t.phase ≠ .quit → s.inbox.head? = some .reset) ∧
    (s.phase ≠ .wait → t.phase = .wait → s.inbox.head? = some .reset) ∧
    (∀ ws ls cs, exec (.start ws ls cs) s = .next { s with reply := some ⟨.refused, none⟩ } ↔ s.phase ≠ .wait)

/-- R78, R79: the phase codes and names, 5 to 7 never produced, and the status codes. -/
def Obligations.PhaseAndStatusCodes : Prop :=
  (phaseCode .wait = 0 ∧ phaseCode .warmup = 1 ∧ phaseCode .lase = 2 ∧ phaseCode .cool = 3 ∧ phaseCode .quit = 4) ∧
  (∀ ph, (phaseCode ph).toNat ≤ 4) ∧
  (phaseName .wait = "WAIT" ∧ phaseName .warmup = "WARMUP" ∧ phaseName .lase = "LASE" ∧ phaseName .cool = "COOL" ∧
    phaseName .quit = "QUIT") ∧
  (statusCode .ok = 0 ∧ statusCode .wrongLength = 1 ∧ statusCode .checksumMismatch = 2 ∧ statusCode .refused = 3)

/-- R33: `emit` appends the command to `OUTLOG` and updates the latch the command names, and nothing else. -/
def Obligations.EmitAppendsAndLatches : Prop :=
  ∀ s : State,
    (∀ v, emit (.writeDigital .enable v) s = { s with outlog := s.outlog ++ [.writeDigital .enable v], oEn := some v }) ∧
    (∀ v, emit (.writeDigital .shutter v) s =
      { s with outlog := s.outlog ++ [.writeDigital .shutter v], oSh := some v }) ∧
    (∀ v, emit (.writeDigital .pulse v) s = { s with outlog := s.outlog ++ [.writeDigital .pulse v], oPl := some v }) ∧
    (∀ hz, emit (.setPwmFrequency .pulse hz) s =
      { s with outlog := s.outlog ++ [.setPwmFrequency .pulse hz], pwmHz := some hz }) ∧
    (∀ d, emit (.setPwmDuty .pulse d) s = { s with outlog := s.outlog ++ [.setPwmDuty .pulse d], pwmDuty := some d }) ∧
    (∀ us, emit (.delay us) s = { s with outlog := s.outlog ++ [.delay us] })
end

