-- ==== Sys2Proof/Laws/Decode.lean ====
section
/-! SUPPORT. What the decoder can do with a selector, said once. -/

namespace Sys2Proof

/-- The operation field of a selector is all that the mask 0x1F0 compares (R75). -/
theorem selOp_of_mask : ∀ sel m : BitVec 9, sel &&& 0x1F0 = m → selOp sel = selOp m := by
  intro sel m h
  subst h
  revert sel
  decide

/-- The mask 0x1FF compares the whole selector (R75). -/
theorem sel_of_mask : ∀ sel m : BitVec 9, sel &&& 0x1FF = m → sel = m := by
  intro sel m h
  subst h
  revert sel
  decide

/-- With `op` not 0, `var` is ignored: the operation field alone decides (R71). -/
theorem decodeSel_congr {sel m : BitVec 9} (p : Ports) (h : selOp sel = selOp m) (hm : (selOp m).toNat ≠ 0) :
    decodeSel sel p = decodeSel m p := by
  unfold decodeSel
  rw [h]
  split <;> first | rfl | exact absurd ‹_› hm

/-- A row of R75 with mask 0x1F0 selects its operation, if its own selector does. -/
theorem Machine.selects_of_op {m : BitVec 9} {i : Ports → Instr} (hm : (selOp m).toNat ≠ 0)
    (h : ∀ p, decodeSel m p = .ok (i p)) : Machine.Selects m 0x1F0 i := by
  intro r hr
  rw [← h, ← decodeSel_congr r.ports (selOp_of_mask _ _ hr) hm]
  rfl

/-- A row of R75 with mask 0x1FF selects its operation, if its own selector does. -/
theorem Machine.selects_of_sel {m : BitVec 9} {i : Ports → Instr} (h : ∀ p, decodeSel m p = .ok (i p)) :
    Machine.Selects m 0x1FF i := by
  intro r hr
  rw [← h, ← sel_of_mask _ _ hr]
  rfl

/-- The variant table has no row past 12 (R82). -/
theorem variantOf_reserved {var : BitVec 4} (h : 13 ≤ var.toNat) : variantOf var = .error (.reservedVar var) := by
  unfold variantOf
  split <;> first | rfl | omega

end Sys2Proof
end

