-- ==== Sys2Proof/Laws/State.lean ====
section
/-! SUPPORT. One lemma per field per update of the state, true by rfl, so that no proof unfolds a record update. -/

namespace Sys2Proof.Machine

variable (s : State)

/-! ### deliver -/

@[simp] theorem deliver_phase (st : Status) (v : Option Value) : (deliver st v s).phase = s.phase := rfl
@[simp] theorem deliver_durations (st : Status) (v : Option Value) : (deliver st v s).durations = s.durations := rfl
@[simp] theorem deliver_oEn (st : Status) (v : Option Value) : (deliver st v s).oEn = s.oEn := rfl
@[simp] theorem deliver_oSh (st : Status) (v : Option Value) : (deliver st v s).oSh = s.oSh := rfl
@[simp] theorem deliver_oPl (st : Status) (v : Option Value) : (deliver st v s).oPl = s.oPl := rfl
@[simp] theorem deliver_pwmHz (st : Status) (v : Option Value) : (deliver st v s).pwmHz = s.pwmHz := rfl
@[simp] theorem deliver_pwmDuty (st : Status) (v : Option Value) : (deliver st v s).pwmDuty = s.pwmDuty := rfl
@[simp] theorem deliver_outlog (st : Status) (v : Option Value) : (deliver st v s).outlog = s.outlog := rfl
@[simp] theorem deliver_inbox (st : Status) (v : Option Value) : (deliver st v s).inbox = s.inbox := rfl
@[simp] theorem deliver_reply (st : Status) (v : Option Value) : (deliver st v s).reply = some ⟨st, v⟩ := rfl

/-! ### raise -/

@[simp] theorem raise_phase (st : Status) : (raise st s).phase = s.phase := rfl
@[simp] theorem raise_durations (st : Status) : (raise st s).durations = s.durations := rfl
@[simp] theorem raise_oEn (st : Status) : (raise st s).oEn = s.oEn := rfl
@[simp] theorem raise_oSh (st : Status) : (raise st s).oSh = s.oSh := rfl
@[simp] theorem raise_oPl (st : Status) : (raise st s).oPl = s.oPl := rfl
@[simp] theorem raise_pwmHz (st : Status) : (raise st s).pwmHz = s.pwmHz := rfl
@[simp] theorem raise_pwmDuty (st : Status) : (raise st s).pwmDuty = s.pwmDuty := rfl
@[simp] theorem raise_outlog (st : Status) : (raise st s).outlog = s.outlog := rfl
@[simp] theorem raise_inbox (st : Status) : (raise st s).inbox = s.inbox := rfl
@[simp] theorem raise_reply (st : Status) : (raise st s).reply = some ⟨st, none⟩ := rfl

/-! ### resetBlock -/

@[simp] theorem resetBlock_phase : (resetBlock s).phase = .wait := rfl
@[simp] theorem resetBlock_durations : (resetBlock s).durations = none := rfl
@[simp] theorem resetBlock_oEn : (resetBlock s).oEn = none := rfl
@[simp] theorem resetBlock_oSh : (resetBlock s).oSh = none := rfl
@[simp] theorem resetBlock_oPl : (resetBlock s).oPl = none := rfl
@[simp] theorem resetBlock_pwmHz : (resetBlock s).pwmHz = none := rfl
@[simp] theorem resetBlock_pwmDuty : (resetBlock s).pwmDuty = none := rfl
@[simp] theorem resetBlock_outlog : (resetBlock s).outlog = [] := rfl
@[simp] theorem resetBlock_inbox : (resetBlock s).inbox = s.inbox := rfl
@[simp] theorem resetBlock_reply : (resetBlock s).reply = s.reply := rfl

/-! ### issue -/

@[simp] theorem issue_phase (es : List HostEvent) : (s.issue es).phase = s.phase := rfl
@[simp] theorem issue_durations (es : List HostEvent) : (s.issue es).durations = s.durations := rfl
@[simp] theorem issue_oEn (es : List HostEvent) : (s.issue es).oEn = s.oEn := rfl
@[simp] theorem issue_oSh (es : List HostEvent) : (s.issue es).oSh = s.oSh := rfl
@[simp] theorem issue_oPl (es : List HostEvent) : (s.issue es).oPl = s.oPl := rfl
@[simp] theorem issue_pwmHz (es : List HostEvent) : (s.issue es).pwmHz = s.pwmHz := rfl
@[simp] theorem issue_pwmDuty (es : List HostEvent) : (s.issue es).pwmDuty = s.pwmDuty := rfl
@[simp] theorem issue_outlog (es : List HostEvent) : (s.issue es).outlog = s.outlog := rfl
@[simp] theorem issue_inbox (es : List HostEvent) : (s.issue es).inbox = es := rfl
@[simp] theorem issue_reply (es : List HostEvent) : (s.issue es).reply = s.reply := rfl

/-! ### withFetchWord -/

@[simp] theorem withFetchWord_phase (nbits w : Nat) : (s.withFetchWord nbits w).phase = s.phase := rfl
@[simp] theorem withFetchWord_durations (nbits w : Nat) : (s.withFetchWord nbits w).durations = s.durations := rfl
@[simp] theorem withFetchWord_oEn (nbits w : Nat) : (s.withFetchWord nbits w).oEn = s.oEn := rfl
@[simp] theorem withFetchWord_oSh (nbits w : Nat) : (s.withFetchWord nbits w).oSh = s.oSh := rfl
@[simp] theorem withFetchWord_oPl (nbits w : Nat) : (s.withFetchWord nbits w).oPl = s.oPl := rfl
@[simp] theorem withFetchWord_pwmHz (nbits w : Nat) : (s.withFetchWord nbits w).pwmHz = s.pwmHz := rfl
@[simp] theorem withFetchWord_pwmDuty (nbits w : Nat) : (s.withFetchWord nbits w).pwmDuty = s.pwmDuty := rfl
@[simp] theorem withFetchWord_outlog (nbits w : Nat) : (s.withFetchWord nbits w).outlog = s.outlog := rfl
@[simp] theorem withFetchWord_inbox (nbits w : Nat) : (s.withFetchWord nbits w).inbox = .op (Request.ofTableWord nbits w) :: s.inbox := rfl
@[simp] theorem withFetchWord_reply (nbits w : Nat) : (s.withFetchWord nbits w).reply = s.reply := rfl

/-! ### emit_writeDigital_enable -/

@[simp] theorem emit_writeDigital_enable_oEn (v : Level) : (emit (.writeDigital .enable v) s).oEn = some v := rfl
@[simp] theorem emit_writeDigital_enable_oSh (v : Level) : (emit (.writeDigital .enable v) s).oSh = s.oSh := rfl
@[simp] theorem emit_writeDigital_enable_oPl (v : Level) : (emit (.writeDigital .enable v) s).oPl = s.oPl := rfl
@[simp] theorem emit_writeDigital_enable_pwmHz (v : Level) : (emit (.writeDigital .enable v) s).pwmHz = s.pwmHz := rfl
@[simp] theorem emit_writeDigital_enable_pwmDuty (v : Level) : (emit (.writeDigital .enable v) s).pwmDuty = s.pwmDuty := rfl

/-! ### emit_writeDigital_shutter -/

@[simp] theorem emit_writeDigital_shutter_oEn (v : Level) : (emit (.writeDigital .shutter v) s).oEn = s.oEn := rfl
@[simp] theorem emit_writeDigital_shutter_oSh (v : Level) : (emit (.writeDigital .shutter v) s).oSh = some v := rfl
@[simp] theorem emit_writeDigital_shutter_oPl (v : Level) : (emit (.writeDigital .shutter v) s).oPl = s.oPl := rfl
@[simp] theorem emit_writeDigital_shutter_pwmHz (v : Level) : (emit (.writeDigital .shutter v) s).pwmHz = s.pwmHz := rfl
@[simp] theorem emit_writeDigital_shutter_pwmDuty (v : Level) : (emit (.writeDigital .shutter v) s).pwmDuty = s.pwmDuty := rfl

/-! ### emit_writeDigital_pulse -/

@[simp] theorem emit_writeDigital_pulse_oEn (v : Level) : (emit (.writeDigital .pulse v) s).oEn = s.oEn := rfl
@[simp] theorem emit_writeDigital_pulse_oSh (v : Level) : (emit (.writeDigital .pulse v) s).oSh = s.oSh := rfl
@[simp] theorem emit_writeDigital_pulse_oPl (v : Level) : (emit (.writeDigital .pulse v) s).oPl = some v := rfl
@[simp] theorem emit_writeDigital_pulse_pwmHz (v : Level) : (emit (.writeDigital .pulse v) s).pwmHz = s.pwmHz := rfl
@[simp] theorem emit_writeDigital_pulse_pwmDuty (v : Level) : (emit (.writeDigital .pulse v) s).pwmDuty = s.pwmDuty := rfl

/-! ### emit_setPwmFrequency_pulse -/

@[simp] theorem emit_setPwmFrequency_pulse_oEn (hz : Nat) : (emit (.setPwmFrequency .pulse hz) s).oEn = s.oEn := rfl
@[simp] theorem emit_setPwmFrequency_pulse_oSh (hz : Nat) : (emit (.setPwmFrequency .pulse hz) s).oSh = s.oSh := rfl
@[simp] theorem emit_setPwmFrequency_pulse_oPl (hz : Nat) : (emit (.setPwmFrequency .pulse hz) s).oPl = s.oPl := rfl
@[simp] theorem emit_setPwmFrequency_pulse_pwmHz (hz : Nat) : (emit (.setPwmFrequency .pulse hz) s).pwmHz = some hz := rfl
@[simp] theorem emit_setPwmFrequency_pulse_pwmDuty (hz : Nat) : (emit (.setPwmFrequency .pulse hz) s).pwmDuty = s.pwmDuty := rfl

/-! ### emit_setPwmDuty_pulse -/

@[simp] theorem emit_setPwmDuty_pulse_oEn (d : Byte) : (emit (.setPwmDuty .pulse d) s).oEn = s.oEn := rfl
@[simp] theorem emit_setPwmDuty_pulse_oSh (d : Byte) : (emit (.setPwmDuty .pulse d) s).oSh = s.oSh := rfl
@[simp] theorem emit_setPwmDuty_pulse_oPl (d : Byte) : (emit (.setPwmDuty .pulse d) s).oPl = s.oPl := rfl
@[simp] theorem emit_setPwmDuty_pulse_pwmHz (d : Byte) : (emit (.setPwmDuty .pulse d) s).pwmHz = s.pwmHz := rfl
@[simp] theorem emit_setPwmDuty_pulse_pwmDuty (d : Byte) : (emit (.setPwmDuty .pulse d) s).pwmDuty = some d := rfl

/-! ### emit_delay -/

@[simp] theorem emit_delay_oEn (us : Nat) : (emit (.delay us) s).oEn = s.oEn := rfl
@[simp] theorem emit_delay_oSh (us : Nat) : (emit (.delay us) s).oSh = s.oSh := rfl
@[simp] theorem emit_delay_oPl (us : Nat) : (emit (.delay us) s).oPl = s.oPl := rfl
@[simp] theorem emit_delay_pwmHz (us : Nat) : (emit (.delay us) s).pwmHz = s.pwmHz := rfl
@[simp] theorem emit_delay_pwmDuty (us : Nat) : (emit (.delay us) s).pwmDuty = s.pwmDuty := rfl

/-! ### emit, any command -/

@[simp] theorem emit_phase (c : GpioCmd) : (emit c s).phase = s.phase := by
  cases c with
  | delay us => rfl
  | writeDigital l v => cases l <;> rfl
  | setPwmFrequency l hz => cases l <;> rfl
  | setPwmDuty l d => cases l <;> rfl
@[simp] theorem emit_durations (c : GpioCmd) : (emit c s).durations = s.durations := by
  cases c with
  | delay us => rfl
  | writeDigital l v => cases l <;> rfl
  | setPwmFrequency l hz => cases l <;> rfl
  | setPwmDuty l d => cases l <;> rfl
@[simp] theorem emit_inbox (c : GpioCmd) : (emit c s).inbox = s.inbox := by
  cases c with
  | delay us => rfl
  | writeDigital l v => cases l <;> rfl
  | setPwmFrequency l hz => cases l <;> rfl
  | setPwmDuty l d => cases l <;> rfl
@[simp] theorem emit_reply (c : GpioCmd) : (emit c s).reply = s.reply := by
  cases c with
  | delay us => rfl
  | writeDigital l v => cases l <;> rfl
  | setPwmFrequency l hz => cases l <;> rfl
  | setPwmDuty l d => cases l <;> rfl
@[simp] theorem emit_outlog (c : GpioCmd) : (emit c s).outlog = s.outlog ++ [c] := by
  cases c with
  | delay us => rfl
  | writeDigital l v => cases l <;> rfl
  | setPwmFrequency l hz => cases l <;> rfl
  | setPwmDuty l d => cases l <;> rfl

/-! ### emitAll -/

@[simp] theorem emitAll_nil : emitAll [] s = s := rfl
@[simp] theorem emitAll_cons (c : GpioCmd) (cs : List GpioCmd) : emitAll (c :: cs) s = emitAll cs (emit c s) := rfl

@[simp] theorem emitAll_phase (cs : List GpioCmd) : (emitAll cs s).phase = s.phase := by
  induction cs generalizing s with
  | nil => rfl
  | cons c cs ih => rw [emitAll_cons, ih, emit_phase]

@[simp] theorem emitAll_durations (cs : List GpioCmd) : (emitAll cs s).durations = s.durations := by
  induction cs generalizing s with
  | nil => rfl
  | cons c cs ih => rw [emitAll_cons, ih, emit_durations]

@[simp] theorem emitAll_inbox (cs : List GpioCmd) : (emitAll cs s).inbox = s.inbox := by
  induction cs generalizing s with
  | nil => rfl
  | cons c cs ih => rw [emitAll_cons, ih, emit_inbox]

@[simp] theorem emitAll_reply (cs : List GpioCmd) : (emitAll cs s).reply = s.reply := by
  induction cs generalizing s with
  | nil => rfl
  | cons c cs ih => rw [emitAll_cons, ih, emit_reply]

@[simp] theorem emitAll_outlog (cs : List GpioCmd) : (emitAll cs s).outlog = s.outlog ++ cs := by
  induction cs generalizing s with
  | nil => simp
  | cons c cs ih => rw [emitAll_cons, ih, emit_outlog, List.append_assoc]; rfl

end Sys2Proof.Machine
end

