-- ==== Sys2Proof/Laws/Ops.lean ====
section
/-! SUPPORT. For each shared operation one lemma that says all it can do, so that callers cite it instead of unfolding
it. -/

namespace Sys2Proof.Machine

/-- Completing changes the reply and nothing else. -/
theorem deliver_eq (st : Status) (v : Option Value) (s : State) : deliver st v s = { s with reply := some ⟨st, v⟩ } := rfl

/-- An error result changes the reply and nothing else, and delivers no value (R209). -/
theorem raise_eq (st : Status) (s : State) : raise st s = { s with reply := some ⟨st, none⟩ } := rfl

theorem answer_ok (v : Option Value) (s : State) : answer (.ok v) s = { s with reply := some ⟨.ok, v⟩ } := rfl

theorem answer_error (st : Status) (s : State) : answer (.error st) s = { s with reply := some ⟨st, none⟩ } := rfl

/-- `answer` changes the reply alone, and by the result alone. -/
theorem answer_eq (result : Except Status (Option Value)) (s : State) :
    answer result s =
      { s with reply := some (match result with | .ok v => ⟨.ok, v⟩ | .error st => ⟨st, none⟩) } := by
  cases result <;> rfl

/-- The five commands of R172 and what the latches hold after them. -/
theorem emitAll_startLaser (cfg : Config) (s : State) :
    emitAll (startLaser cfg) s =
      { s with
        outlog := s.outlog ++ startLaser cfg, oPl := some 0, oEn := some 1, pwmHz := some cfg.laserHz,
        pwmDuty := some cfg.dutyHalf } := by
  simp [startLaser, emit, latch]

/-- The modelled block's `DUTY_HALF` makes the fifth command of R172 a PWM start (R34, R180). -/
theorem fcps_dutyHalf_ne_zero : Config.fcps.dutyHalf ≠ 0 := by decide

/-- The two commands of R173 and R175 and what the latches hold after them. -/
theorem emitAll_stopLaser (s : State) :
    emitAll stopLaser s =
      { s with outlog := s.outlog ++ stopLaser, oEn := some 0, pwmDuty := some 0 } := by
  simp [stopLaser, emit, latch]

/-- `classify` gives WARMUP, LASE or COOL, each exactly in its interval (R164, R165 a). -/
theorem classifyTime_cases (d : Durations) (t : Seconds) :
    (classifyTime d t = .warmup ∧ t.toNat < d.wEnd) ∨
    (classifyTime d t = .lase ∧ d.wEnd ≤ t.toNat ∧ t.toNat < d.lEnd) ∨
    (classifyTime d t = .cool ∧ d.wEnd ≤ t.toNat ∧ d.lEnd ≤ t.toNat) := by
  unfold classifyTime
  split
  · exact .inl ⟨rfl, ‹_›⟩
  · split
    · exact .inr (.inl ⟨rfl, by omega, ‹_›⟩)
    · exact .inr (.inr ⟨rfl, by omega, by omega⟩)

theorem wEnd_le_lEnd (d : Durations) : d.wEnd ≤ d.lEnd := by simp [Durations.wEnd, Durations.lEnd]

/-- The commands of a change of phase are the five, the two, or none (R170). -/
theorem transitionCommands_cases (cfg : Config) (old new : Phase) :
    (old = .warmup ∧ new = .lase ∧ transitionCommands cfg old new = startLaser cfg) ∨
    (old = .lase ∧ new = .cool ∧ transitionCommands cfg old new = stopLaser) ∨
    (¬(old = .warmup ∧ new = .lase) ∧ ¬(old = .lase ∧ new = .cool) ∧ transitionCommands cfg old new = []) := by
  cases old <;> cases new <;> simp [transitionCommands]

/-- All that `changePhase` can do (R170). -/
theorem changePhase_cases (cfg : Config) (new : Phase) (s : State) :
    (new = s.phase ∧ changePhase cfg new s = s) ∨
    (s.phase = .warmup ∧ new = .lase ∧
      changePhase cfg new s = { emitAll (startLaser cfg) s with phase := .lase }) ∨
    (s.phase = .lase ∧ new = .cool ∧ changePhase cfg new s = { emitAll stopLaser s with phase := .cool }) ∨
    (new ≠ s.phase ∧ ¬(s.phase = .warmup ∧ new = .lase) ∧ ¬(s.phase = .lase ∧ new = .cool) ∧
      changePhase cfg new s = { s with phase := new }) := by
  unfold changePhase
  split
  · exact .inl ⟨‹_›, rfl⟩
  · obtain ⟨h, rfl, e⟩ | ⟨h, rfl, e⟩ | ⟨h₁, h₂, e⟩ := transitionCommands_cases cfg s.phase new
    · exact .inr (.inl ⟨h, rfl, by rw [e]⟩)
    · exact .inr (.inr (.inl ⟨h, rfl, by rw [e]⟩))
    · exact .inr (.inr (.inr ⟨‹_›, h₁, h₂, by rw [e, emitAll_nil]⟩))

/-- What the block takes is the oldest event, and nothing else changes (R58). -/
theorem takeEvent_eq (s : State) :
    takeEvent s = match s.inbox with | [] => none | e :: rest => some (e, { s with inbox := rest }) := rfl

/-- Reset gives the reset values and leaves the host side alone (R230). -/
theorem resetBlock_eq (s : State) : resetBlock s = { State.reset with inbox := s.inbox, reply := s.reply } := rfl

end Sys2Proof.Machine
end

