-- ==== Sys2Proof/Laws/Codec.lean ====
section
/-! SUPPORT. The checks and conversions of the codec, each said once. -/

namespace Sys2Proof.Machine

theorem checkFrame_valid {ck : Checksum} {f : Frame} (h : ValidFrame ck f) : checkFrame ck f = .ok f := if_pos h

theorem checkFrame_invalid {ck : Checksum} {f : Frame} (h : ¬ValidFrame ck f) :
    checkFrame ck f = .error .checksumMismatch := if_neg h

theorem buildFrame_valid (ck : Checksum) (h a b c : Byte) : ValidFrame ck (buildFrame ck h a b c) := rfl

/-- `DECB`'s check of the length (R126). -/
theorem decodeBytes_wrongLength {ck : Checksum} {bs : ByteSeq} (h : bs.length ≠ 5) :
    decodeBytes ck bs = .error .wrongLength := by
  unfold decodeBytes
  split
  · simp at h
  · rfl

/-- `DECB` of five bytes is the checksum comparison on the frame they spell (R126). -/
theorem decodeBytes_five (ck : Checksum) (h a b c k : Byte) :
    decodeBytes ck [h, a, b, c, k] = checkFrame ck ⟨h, a, b, c, k⟩ := rfl

/-- A sequence of length five is its five elements. -/
theorem exists_of_length_five {bs : ByteSeq} (h : bs.length = 5) : ∃ h a b c k, bs = [h, a, b, c, k] := by
  match bs, h with
  | [h, a, b, c, k], _ => exact ⟨h, a, b, c, k, rfl⟩

theorem decodeHex_wrongLength {ck : Checksum} {t : Text} (h : t.length ≠ 10) :
    decodeHex ck t = .error .wrongLength := if_pos h

theorem decodeHex_badDigit {ck : Checksum} {t : Text} (h : hexDigits t = none) :
    decodeHex ck t = .error .wrongLength := by
  unfold decodeHex
  split
  · rfl
  · rw [h]

theorem decodeHex_digits {ck : Checksum} {t : Text} {ds : List Nat} (hl : t.length = 10) (h : hexDigits t = some ds) :
    decodeHex ck t = checkFrame ck (intToFrame (BitVec.ofNat 40 (digitsValue ds))) := by
  unfold decodeHex
  rw [if_neg (by simpa using hl), h]

theorem hexDigits_nil : hexDigits [] = some [] := rfl

/-- The digits of a text, one character at a time. -/
theorem hexDigits_cons (ch : Byte) (t : Text) :
    hexDigits (ch :: t) = (hexVal ch).bind fun d => (hexDigits t).map (d :: ·) := by
  unfold hexDigits
  rw [List.mapM_cons]
  cases hexVal ch <;> cases t.mapM hexVal <;> rfl

/-- A text has digit values exactly when every character is a hex digit (R146). -/
theorem hexDigits_eq_none {t : Text} : hexDigits t = none ↔ ∃ ch ∈ t, hexVal ch = none := by
  induction t with
  | nil => simp [hexDigits_nil]
  | cons ch t ih => cases hv : hexVal ch <;> simp [hexDigits_cons, hv, ih]

/-- A digit value is below 16. -/
theorem hexVal_lt {ch : Byte} {d : Nat} (h : hexVal ch = some d) : d < 16 := by
  simp only [hexVal] at h
  split at h
  · cases h; omega
  · split at h
    · cases h; omega
    · split at h
      · cases h; omega
      · cases h

end Sys2Proof.Machine
end

