-- ==== Sys2Proof/Laws/Exec.lean ====
section
/-! SUPPORT. What each operation answers, and what `exec` and `step` can do, said once. -/

namespace Sys2Proof.Machine

theorem execValidate_eq (f : Frame) (s : State) :
    execValidate f s =
      .next { s with
        reply := some ⟨if ValidFrame Config.fcps.ck f then .ok else .checksumMismatch, none⟩ } := by
  unfold execValidate checkFrame
  split <;> rfl

theorem execStart_wait {s : State} (h : s.phase = .wait) (ws ls cs : Seconds) :
    execStart ws ls cs s =
      .next { s with durations := some ⟨ws, ls, cs⟩, phase := .warmup, reply := some ⟨.ok, none⟩ } := by
  simp [execStart, h, deliver]

theorem execStart_refused {s : State} (h : s.phase ≠ .wait) (ws ls cs : Seconds) :
    execStart ws ls cs s = .next { s with reply := some ⟨.refused, none⟩ } := by
  simp [execStart, h, raise, deliver]

theorem execClassify_none {s : State} (h : s.durations = none) (t : Seconds) :
    execClassify t s = .next { s with reply := some ⟨.refused, none⟩ } := by
  simp [execClassify, h, raise, deliver]

theorem execClassify_some {s : State} {d : Durations} (h : s.durations = some d) (t : Seconds) :
    execClassify t s = .next { s with reply := some ⟨.ok, some (.phase (classifyTime d t))⟩ } := by
  simp [execClassify, h, deliver]

/-- All that `tick` can do, for any parameters. -/
theorem tick_cases (cfg : Config) (t : Seconds) (s : State) :
    ((s.durations = none ∨ s.phase = .quit) ∧ tick cfg t s = { s with reply := some ⟨.refused, none⟩ }) ∨
    (∃ d, s.durations = some d ∧ s.phase ≠ .quit ∧
      tick cfg t s = { changePhase cfg (classifyTime d t) s with
        reply := some ⟨.ok, some (.phase (classifyTime d t))⟩ }) := by
  unfold tick
  split
  · exact .inl ⟨.inl ‹_›, rfl⟩
  · split
    · exact .inl ⟨.inr ‹_›, rfl⟩
    · exact .inr ⟨_, ‹_›, ‹_›, rfl⟩

theorem execTick_none {s : State} (h : s.durations = none) (t : Seconds) :
    execTick t s = .next { s with reply := some ⟨.refused, none⟩ } := by
  simp [execTick, tick, h, raise, deliver]

theorem execTick_quit {s : State} (h : s.phase = .quit) (t : Seconds) :
    execTick t s = .next { s with reply := some ⟨.refused, none⟩ } := by
  cases hd : s.durations <;> simp [execTick, tick, h, hd, raise, deliver]

theorem execTick_some {s : State} {d : Durations} (hd : s.durations = some d) (hq : s.phase ≠ .quit) (t : Seconds) :
    execTick t s =
      .next { changePhase Config.fcps (classifyTime d t) s with
        reply := some ⟨.ok, some (.phase (classifyTime d t))⟩ } := by
  simp [execTick, tick, hd, hq, deliver]

theorem execQuit_eq (s : State) :
    execQuit s =
      .next { s with
        outlog := s.outlog ++ stopLaser, oEn := some 0, pwmDuty := some 0, phase := .quit,
        reply := some ⟨.ok, none⟩ } := by
  simp only [execQuit, emitAll_stopLaser, deliver]

/-- A codec operation completes and changes the reply alone, by its operands alone (R22). -/
theorem exec_of_isFcu {i : Instr} (h : i.isFcu = true) :
    ∃ c : Completion, ∀ s : State, exec i s = .next { s with reply := some c } := by
  cases i with
  | start ws ls cs => cases h
  | classify t => cases h
  | tick t => cases h
  | quit => cases h
  | validate f => exact ⟨_, fun s => execValidate_eq f s⟩
  | decb bs => exact ⟨_, fun s => by simp only [exec, execDecb, answer_eq]; rfl⟩
  | h2f t => exact ⟨_, fun s => by simp only [exec, execH2f, answer_eq]; rfl⟩
  | _ => exact ⟨_, fun s => rfl⟩

/-- All that `exec` can do: the reply alone changes, or `START` is accepted, or an accepted `TICK`, or `QUIT`. -/
theorem exec_cases (i : Instr) (s : State) :
    (∃ c, exec i s = .next { s with reply := some c }) ∨
    (∃ ws ls cs, i = .start ws ls cs ∧ s.phase = .wait ∧
      exec i s = .next { s with durations := some ⟨ws, ls, cs⟩, phase := .warmup, reply := some ⟨.ok, none⟩ }) ∨
    (∃ t d, i = .tick t ∧ s.durations = some d ∧ s.phase ≠ .quit ∧
      exec i s = .next { changePhase Config.fcps (classifyTime d t) s with
        reply := some ⟨.ok, some (.phase (classifyTime d t))⟩ }) ∨
    (i = .quit ∧
      exec i s = .next { s with
        outlog := s.outlog ++ stopLaser, oEn := some 0, pwmDuty := some 0, phase := .quit,
        reply := some ⟨.ok, none⟩ }) := by
  cases hf : i.isFcu with
  | true =>
    obtain ⟨c, hc⟩ := exec_of_isFcu hf
    exact .inl ⟨c, hc s⟩
  | false =>
    cases i with
    | start ws ls cs =>
      by_cases h : s.phase = .wait
      · exact .inr (.inl ⟨ws, ls, cs, rfl, h, execStart_wait h ws ls cs⟩)
      · exact .inl ⟨_, execStart_refused h ws ls cs⟩
    | classify t =>
      obtain h | ⟨d, h⟩ := Option.eq_none_or_eq_some s.durations
      · exact .inl ⟨_, execClassify_none h t⟩
      · exact .inl ⟨_, execClassify_some h t⟩
    | tick t =>
      obtain ⟨-, e⟩ | ⟨d, hd, hq, e⟩ := tick_cases Config.fcps t s
      · exact .inl ⟨_, congrArg _ e⟩
      · exact .inr (.inr (.inl ⟨t, d, rfl, hd, hq, congrArg _ e⟩))
    | quit => exact .inr (.inr (.inr ⟨rfl, execQuit_eq s⟩))
    | _ => cases hf

/-- All that `step` can do. -/
theorem step_cases (s : State) :
    (s.inbox = [] ∧ step s = .next s) ∨
    (∃ rest, s.inbox = .reset :: rest ∧ step s = .next (resetBlock { s with inbox := rest })) ∨
    (∃ r rest i, s.inbox = .op r :: rest ∧ decode r = .ok i ∧ step s = exec i { s with inbox := rest }) ∨
    (∃ r rest e, s.inbox = .op r :: rest ∧ decode r = .error e ∧
      step s = .next { s with inbox := rest, reply := some ⟨.refused, none⟩ }) := by
  cases h : s.inbox with
  | nil => exact .inl ⟨rfl, by simp [step, takeEvent, h]⟩
  | cons e rest =>
    cases e with
    | reset => exact .inr (.inl ⟨rest, rfl, by simp [step, takeEvent, h]⟩)
    | op r =>
      cases hd : decode r with
      | ok i => exact .inr (.inr (.inl ⟨r, rest, i, rfl, hd, by simp [step, takeEvent, h, hd]⟩))
      | error e => exact .inr (.inr (.inr ⟨r, rest, e, rfl, hd, by simp [step, takeEvent, h, hd, rejectRequest, raise, deliver]⟩))

/-- No operation gives one of the latches `O_EN`, `PWM_DUTY` a value and leaves the other without (R172, R173, R175). -/
theorem exec_latches_together {i : Instr} {s t : State} (h : s.oEn.isSome = s.pwmDuty.isSome)
    (ht : exec i s = .next t) : t.oEn.isSome = t.pwmDuty.isSome := by
  obtain ⟨c, e⟩ | ⟨ws, ls, cs, -, -, e⟩ | ⟨time, d, -, -, -, e⟩ | ⟨-, e⟩ := exec_cases i s <;> rw [e] at ht <;> cases ht
  · exact h
  · exact h
  · obtain ⟨-, e⟩ | ⟨-, -, e⟩ | ⟨-, -, e⟩ | ⟨-, -, -, e⟩ := changePhase_cases Config.fcps (classifyTime d time) s
    · rw [e]; exact h
    · rw [e, emitAll_startLaser]; rfl
    · rw [e, emitAll_stopLaser]; rfl
    · rw [e]; exact h
  · rfl

/-- So from reset no run reaches a state in which one of the two latches alone holds a value (assumption 18). -/
theorem step_latches_together {s t : State} (h : s.oEn.isSome = s.pwmDuty.isSome) (ht : step s = .next t) :
    t.oEn.isSome = t.pwmDuty.isSome := by
  obtain ⟨-, e⟩ | ⟨rest, -, e⟩ | ⟨r, rest, i, -, -, e⟩ | ⟨r, rest, er, -, -, e⟩ := step_cases s <;> rw [e] at ht
  · cases ht; exact h
  · cases ht; rfl
  · exact exec_latches_together (s := { s with inbox := rest }) h ht
  · cases ht; exact h

end Sys2Proof.Machine
end

