-- ==== Sys2Proof/Laws/PerInstr.lean ====
section
/-! SUPPORT. Statements made per constructor of `Instr`, one lemma each. -/

namespace Sys2Proof.Laws.EncodeCanonical

/-- The encoder gives a canonical request: its selector names an operation, its ignored `var` and its unread ports are
zero. -/
def Statement (i : Instr) : Prop := (encode i).canonical = true

theorem encLink (arg : Payload) : Statement (.encLink arg) := by simp [Statement, encode, Request.canonical, Request.wf, Request.opDefined, Request.varDefined, Request.varIdle, Request.portsIdle, Request.op, Request.var, selOp, selVar]
theorem encRtc (arg : Payload) : Statement (.encRtc arg) := by simp [Statement, encode, Request.canonical, Request.wf, Request.opDefined, Request.varDefined, Request.varIdle, Request.portsIdle, Request.op, Request.var, selOp, selVar]
theorem encCaset (arg : Payload) : Statement (.encCaset arg) := by simp [Statement, encode, Request.canonical, Request.wf, Request.opDefined, Request.varDefined, Request.varIdle, Request.portsIdle, Request.op, Request.var, selOp, selVar]
theorem encBoardt (arg : Payload) : Statement (.encBoardt arg) := by simp [Statement, encode, Request.canonical, Request.wf, Request.opDefined, Request.varDefined, Request.varIdle, Request.portsIdle, Request.op, Request.var, selOp, selVar]
theorem encDimon (arg : Payload) : Statement (.encDimon arg) := by simp [Statement, encode, Request.canonical, Request.wf, Request.opDefined, Request.varDefined, Request.varIdle, Request.portsIdle, Request.op, Request.var, selOp, selVar]
theorem encSerno (arg : Payload) : Statement (.encSerno arg) := by simp [Statement, encode, Request.canonical, Request.wf, Request.opDefined, Request.varDefined, Request.varIdle, Request.portsIdle, Request.op, Request.var, selOp, selVar]
theorem encStatus (arg : Payload) : Statement (.encStatus arg) := by simp [Statement, encode, Request.canonical, Request.wf, Request.opDefined, Request.varDefined, Request.varIdle, Request.portsIdle, Request.op, Request.var, selOp, selVar]
theorem encHwsw (arg : Payload) : Statement (.encHwsw arg) := by simp [Statement, encode, Request.canonical, Request.wf, Request.opDefined, Request.varDefined, Request.varIdle, Request.portsIdle, Request.op, Request.var, selOp, selVar]
theorem encCfgchk (arg : Payload) : Statement (.encCfgchk arg) := by simp [Statement, encode, Request.canonical, Request.wf, Request.opDefined, Request.varDefined, Request.varIdle, Request.portsIdle, Request.op, Request.var, selOp, selVar]
theorem encTrigsrc (arg : Payload) : Statement (.encTrigsrc arg) := by simp [Statement, encode, Request.canonical, Request.wf, Request.opDefined, Request.varDefined, Request.varIdle, Request.portsIdle, Request.op, Request.var, selOp, selVar]
theorem encSetilk (arg : Payload) : Statement (.encSetilk arg) := by simp [Statement, encode, Request.canonical, Request.wf, Request.opDefined, Request.varDefined, Request.varIdle, Request.portsIdle, Request.op, Request.var, selOp, selVar]
theorem encSeten (arg : Payload) : Statement (.encSeten arg) := by simp [Statement, encode, Request.canonical, Request.wf, Request.opDefined, Request.varDefined, Request.varIdle, Request.portsIdle, Request.op, Request.var, selOp, selVar]
theorem encSetprr (arg : Payload) : Statement (.encSetprr arg) := by simp [Statement, encode, Request.canonical, Request.wf, Request.opDefined, Request.varDefined, Request.varIdle, Request.portsIdle, Request.op, Request.var, selOp, selVar]
theorem pack (h d1 d2 d3 : Byte) : Statement (.pack h d1 d2 d3) := by simp [Statement, encode, Request.canonical, Request.wf, Request.opDefined, Request.varDefined, Request.varIdle, Request.portsIdle, Request.op, Request.var, selOp, selVar]
theorem unpack (f : Frame) : Statement (.unpack f) := by simp [Statement, encode, Request.canonical, Request.wf, Request.opDefined, Request.varDefined, Request.varIdle, Request.portsIdle, Request.op, Request.var, selOp, selVar]
theorem cksum (h d1 d2 d3 : Byte) : Statement (.cksum h d1 d2 d3) := by simp [Statement, encode, Request.canonical, Request.wf, Request.opDefined, Request.varDefined, Request.varIdle, Request.portsIdle, Request.op, Request.var, selOp, selVar]
theorem validate (f : Frame) : Statement (.validate f) := by simp [Statement, encode, Request.canonical, Request.wf, Request.opDefined, Request.varDefined, Request.varIdle, Request.portsIdle, Request.op, Request.var, selOp, selVar]
theorem f2b (f : Frame) : Statement (.f2b f) := by simp [Statement, encode, Request.canonical, Request.wf, Request.opDefined, Request.varDefined, Request.varIdle, Request.portsIdle, Request.op, Request.var, selOp, selVar]
theorem b2f (b : Bytes5) : Statement (.b2f b) := by simp [Statement, encode, Request.canonical, Request.wf, Request.opDefined, Request.varDefined, Request.varIdle, Request.portsIdle, Request.op, Request.var, selOp, selVar]
theorem decb (bs : ByteSeq) : Statement (.decb bs) := by simp [Statement, encode, Request.canonical, Request.wf, Request.opDefined, Request.varDefined, Request.varIdle, Request.portsIdle, Request.op, Request.var, selOp, selVar]
theorem f2i (f : Frame) : Statement (.f2i f) := by simp [Statement, encode, Request.canonical, Request.wf, Request.opDefined, Request.varDefined, Request.varIdle, Request.portsIdle, Request.op, Request.var, selOp, selVar]
theorem i2f (n : Int40) : Statement (.i2f n) := by simp [Statement, encode, Request.canonical, Request.wf, Request.opDefined, Request.varDefined, Request.varIdle, Request.portsIdle, Request.op, Request.var, selOp, selVar]
theorem f2h (f : Frame) : Statement (.f2h f) := by simp [Statement, encode, Request.canonical, Request.wf, Request.opDefined, Request.varDefined, Request.varIdle, Request.portsIdle, Request.op, Request.var, selOp, selVar]
theorem h2f (text : Text) : Statement (.h2f text) := by simp [Statement, encode, Request.canonical, Request.wf, Request.opDefined, Request.varDefined, Request.varIdle, Request.portsIdle, Request.op, Request.var, selOp, selVar]
theorem start (ws ls cs : Seconds) : Statement (.start ws ls cs) := by simp [Statement, encode, Request.canonical, Request.wf, Request.opDefined, Request.varDefined, Request.varIdle, Request.portsIdle, Request.op, Request.var, selOp, selVar]
theorem classify (t : Seconds) : Statement (.classify t) := by simp [Statement, encode, Request.canonical, Request.wf, Request.opDefined, Request.varDefined, Request.varIdle, Request.portsIdle, Request.op, Request.var, selOp, selVar]
theorem tick (t : Seconds) : Statement (.tick t) := by simp [Statement, encode, Request.canonical, Request.wf, Request.opDefined, Request.varDefined, Request.varIdle, Request.portsIdle, Request.op, Request.var, selOp, selVar]
theorem quit : Statement .quit := by unfold Statement; decide

end Sys2Proof.Laws.EncodeCanonical
end

