-- ==== Sys2Proof/Tests/Slice0.lean ====
section
/-! SUPPORT. Tests of single operations against the vectors of 95_test_vectors.md and hand-written selector words, the
smoke test of WellFormed, and for every obligation with hypotheses the witnesses that meet them. -/

open Sys2Proof Sys2Proof.Machine

namespace Sys2Proof.Tests

/-! ### Helpers -/

/-- XOR8 of 95_test_vectors.md section 2: invented for the vectors, no part of the model. -/
def xor8 : Checksum := fun h a b c => h ^^^ a ^^^ b ^^^ c

/-- `HDR[v] = 0x40 + v` (TESTCFG). -/
def testHdr : Variant → Byte
  | .link => 0x40 | .rtc => 0x41 | .caset => 0x42 | .boardt => 0x43 | .dimon => 0x44 | .serno => 0x45
  | .status => 0x46 | .hwsw => 0x47 | .cfgchk => 0x48 | .trigsrc => 0x49 | .setilk => 0x4A | .seten => 0x4B
  | .setprr => 0x4C

/-- TESTCFG. -/
def testCfg : Config := { ck := xor8, hdr := testHdr, payload := fun _ p => p, laserHz := 0, settleUs := 0 }

/-- The reset state in another phase, after `START 10, 20, 5`. -/
def running (ph : Phase) : State := { State.reset with phase := ph, durations := some ⟨10, 20, 5⟩ }

/-- The reset state with one request issued. -/
def issued (sel : BitVec 9) : State := State.reset.issue [.op ⟨sel, Ports.zero⟩]

/-- The state of a run in LASE: `START 10, 20, 5`, `TICK 12` (program P4 after step 3). -/
def lasing : State :=
  { State.reset with
    phase := .lase, durations := some ⟨10, 20, 5⟩, oEn := some 1, oPl := some 0, pwmHz := some Config.fcps.laserHz,
    pwmDuty := some 128, outlog := startLaser Config.fcps, reply := some ⟨.ok, some (.phase .lase)⟩ }

/-- The completion an answer carries. -/
def replyOf : Answer → Option Completion
  | .next t => t.reply
  | .fault _ => none
  | .refused _ => none

/-- The phase of the next state. -/
def phaseOf : Answer → Option Phase
  | .next t => some t.phase
  | .fault _ => none
  | .refused _ => none

/-- A successor of a byte is another byte. -/
theorem byte_ne_succ : ∀ k : Byte, k ≠ k + 1 := by decide

/-! ### WellFormed: one ill-formed request for each check -/

theorem test_wf_accepts : (⟨0x130, Ports.zero⟩ : Request).canonical = true := by decide

theorem test_wf_reserved_op : ([0x0C0, 0x0F5, 0x140, 0x1FF].map fun sel => (⟨sel, Ports.zero⟩ : Request).opDefined) =
    [false, false, false, false] := by decide

theorem test_wf_reserved_var : ([0x00D, 0x00E, 0x00F].map fun sel => (⟨sel, Ports.zero⟩ : Request).varDefined) =
    [false, false, false] := by decide

theorem test_wf_refuses : (⟨0x0C0, Ports.zero⟩ : Request).wf = false ∧ (⟨0x00D, Ports.zero⟩ : Request).wf = false := by
  decide

theorem test_wf_var_not_idle : (⟨0x017, Ports.zero⟩ : Request).varIdle = false ∧
    (⟨0x017, Ports.zero⟩ : Request).canonical = false ∧ (⟨0x017, Ports.zero⟩ : Request).wf = true := by decide

theorem test_wf_port_not_idle : (⟨0x130, { Ports.zero with t := 1 }⟩ : Request).portsIdle = false ∧
    (⟨0x130, { Ports.zero with t := 1 }⟩ : Request).canonical = false := by decide

/-! ### Decoding: the nine bits `op[4:0] var[3:0]` written out from R75, with operands on their ports (R72) -/

theorem test_decode_encLink : decode ⟨0b000000000, { Ports.zero with arg := 0x001234 }⟩ = .ok (.encLink 0x001234) := rfl
theorem test_decode_encRtc : decode ⟨0b000000001, { Ports.zero with arg := 0x001234 }⟩ = .ok (.encRtc 0x001234) := rfl
theorem test_decode_encCaset : decode ⟨0b000000010, { Ports.zero with arg := 1 }⟩ = .ok (.encCaset 1) := rfl
theorem test_decode_encBoardt : decode ⟨0b000000011, { Ports.zero with arg := 1 }⟩ = .ok (.encBoardt 1) := rfl
theorem test_decode_encDimon : decode ⟨0b000000100, { Ports.zero with arg := 1 }⟩ = .ok (.encDimon 1) := rfl
theorem test_decode_encSerno : decode ⟨0b000000101, { Ports.zero with arg := 1 }⟩ = .ok (.encSerno 1) := rfl
theorem test_decode_encStatus : decode ⟨0b000000110, { Ports.zero with arg := 1 }⟩ = .ok (.encStatus 1) := rfl
theorem test_decode_encHwsw : decode ⟨0b000000111, { Ports.zero with arg := 1 }⟩ = .ok (.encHwsw 1) := rfl
theorem test_decode_encCfgchk : decode ⟨0b000001000, { Ports.zero with arg := 1 }⟩ = .ok (.encCfgchk 1) := rfl
theorem test_decode_encTrigsrc : decode ⟨0b000001001, { Ports.zero with arg := 1 }⟩ = .ok (.encTrigsrc 1) := rfl
theorem test_decode_encSetilk : decode ⟨0b000001010, { Ports.zero with arg := 1 }⟩ = .ok (.encSetilk 1) := rfl
theorem test_decode_encSeten : decode ⟨0b000001011, { Ports.zero with arg := 1 }⟩ = .ok (.encSeten 1) := rfl
theorem test_decode_encSetprr : decode ⟨0b000001100, { Ports.zero with arg := 0xFFFFFF }⟩ = .ok (.encSetprr 0xFFFFFF) :=
  rfl
/-- The vector `sel = 0x017` of section 3.1: `var` is ignored. -/
theorem test_decode_pack : decode ⟨0b000010111, { Ports.zero with h := 1, d1 := 2, d2 := 3, d3 := 4 }⟩ =
    .ok (.pack 1 2 3 4) := rfl
theorem test_decode_unpack : decode ⟨0b000100000, { Ports.zero with f := ⟨1, 2, 3, 4, 5⟩ }⟩ = .ok (.unpack ⟨1, 2, 3, 4, 5⟩) :=
  rfl
theorem test_decode_cksum : decode ⟨0b000110000, { Ports.zero with h := 1, d1 := 2, d2 := 3, d3 := 4 }⟩ =
    .ok (.cksum 1 2 3 4) := rfl
theorem test_decode_validate : decode ⟨0b001000000, { Ports.zero with f := ⟨1, 2, 3, 4, 5⟩ }⟩ =
    .ok (.validate ⟨1, 2, 3, 4, 5⟩) := rfl
theorem test_decode_f2b : decode ⟨0b001010000, { Ports.zero with f := ⟨1, 2, 3, 4, 5⟩ }⟩ = .ok (.f2b ⟨1, 2, 3, 4, 5⟩) := rfl
theorem test_decode_b2f : decode ⟨0b001100000, { Ports.zero with b := #v[1, 2, 3, 4, 5] }⟩ = .ok (.b2f #v[1, 2, 3, 4, 5]) :=
  rfl
theorem test_decode_decb : decode ⟨0b001110000, { Ports.zero with bs := [1, 2] }⟩ = .ok (.decb [1, 2]) := rfl
theorem test_decode_f2i : decode ⟨0b010000000, { Ports.zero with f := ⟨1, 2, 3, 4, 5⟩ }⟩ = .ok (.f2i ⟨1, 2, 3, 4, 5⟩) := rfl
theorem test_decode_i2f : decode ⟨0b010010000, { Ports.zero with n := 0x123456789 }⟩ = .ok (.i2f 0x123456789) := rfl
theorem test_decode_f2h : decode ⟨0b010100000, { Ports.zero with f := ⟨1, 2, 3, 4, 5⟩ }⟩ = .ok (.f2h ⟨1, 2, 3, 4, 5⟩) := rfl
theorem test_decode_h2f : decode ⟨0b010110000, { Ports.zero with text := [0x41] }⟩ = .ok (.h2f [0x41]) := rfl
theorem test_decode_start : decode ⟨0b100000000, { Ports.zero with ws := 10, ls := 20, cs := 5 }⟩ = .ok (.start 10 20 5) :=
  rfl
theorem test_decode_classify : decode ⟨0b100010000, { Ports.zero with t := 5 }⟩ = .ok (.classify 5) := rfl
/-- The vector `sel = 0x12F` of section 3.1: `var` is ignored. -/
theorem test_decode_tick : decode ⟨0b100101111, { Ports.zero with t := 15 }⟩ = .ok (.tick 15) := rfl
theorem test_decode_quit : decode ⟨0b100110000, Ports.zero⟩ = .ok .quit := rfl

/-- The reserved selectors of section 3.1. -/
theorem test_decode_reserved :
    decode ⟨0x00D, Ports.zero⟩ = .error (.reservedVar 13) ∧ decode ⟨0x00F, Ports.zero⟩ = .error (.reservedVar 15) ∧
    decode ⟨0x0C0, Ports.zero⟩ = .error (.reservedOp 0x0C) ∧ decode ⟨0x0F5, Ports.zero⟩ = .error (.reservedOp 0x0F) ∧
    decode ⟨0x140, Ports.zero⟩ = .error (.reservedOp 0x14) ∧ decode ⟨0x1FF, Ports.zero⟩ = .error (.reservedOp 0x1F) :=
  ⟨rfl, rfl, rfl, rfl, rfl, rfl⟩

theorem test_table_word : decodeTableWord 9 0x130 = some .quit ∧ decodeTableWord 16 0x120 = some (.tick 0) ∧
    decodeTableWord 9 0x00D = none := by decide

theorem test_fetch_word : step (State.reset.withFetchWord 9 0x100) = exec (.start 0 0 0) State.reset := rfl

/-! ### Frame construction and checksum (sections 3.1 to 3.4) -/

def allVariants : List Variant :=
  [.link, .rtc, .caset, .boardt, .dimon, .serno, .status, .hwsw, .cfgchk, .trigsrc, .setilk, .seten, .setprr]

theorem test_enc_arg_1234 : allVariants.map (fun v => frameToInt (encodeCommand testCfg v 0x001234)) =
    [0x4000123466, 0x4100123467, 0x4200123464, 0x4300123465, 0x4400123462, 0x4500123463, 0x4600123460, 0x4700123461,
     0x480012346E, 0x490012346F, 0x4A0012346C, 0x4B0012346D, 0x4C0012346A] := by decide

theorem test_enc_arg_max : allVariants.map (fun v => frameToInt (encodeCommand testCfg v 0xFFFFFF)) =
    [0x40FFFFFFBF, 0x41FFFFFFBE, 0x42FFFFFFBD, 0x43FFFFFFBC, 0x44FFFFFFBB, 0x45FFFFFFBA, 0x46FFFFFFB9, 0x47FFFFFFB8,
     0x48FFFFFFB7, 0x49FFFFFFB6, 0x4AFFFFFFB5, 0x4BFFFFFFB4, 0x4CFFFFFFB3] := by decide

theorem test_pack_xor8 : buildFrame xor8 0x80 0x7F 0x01 0xFE = ⟨0x80, 0x7F, 0x01, 0xFE, 0x00⟩ := by decide

theorem test_unpack : replyOf (exec (.unpack ⟨0x01, 0x23, 0x45, 0x67, 0x89⟩) State.reset) =
    some ⟨.ok, some (.fields 0x01 0x23 0x45 0x67 0x89)⟩ := by decide

theorem test_cksum_operand_order : replyOf (exec (.cksum 1 2 3 4) State.reset) =
    some ⟨.ok, some (.byte (Config.fcps.ck 1 2 3 4))⟩ := rfl

theorem test_validate_ok : checkFrame xor8 ⟨0xAB, 0xCD, 0xEF, 0x00, 0x89⟩ = .ok ⟨0xAB, 0xCD, 0xEF, 0x00, 0x89⟩ := rfl

theorem test_validate_mismatch : checkFrame xor8 ⟨0x10, 0x00, 0x00, 0x01, 0x10⟩ = .error .checksumMismatch := rfl

/-! ### Byte and integer forms (sections 4 and 5) -/

theorem test_f2b : replyOf (exec (.f2b ⟨0xAB, 0xCD, 0xEF, 0x00, 0x1F⟩) State.reset) =
    some ⟨.ok, some (.bytes #v[0xAB, 0xCD, 0xEF, 0x00, 0x1F])⟩ := rfl

theorem test_b2f : replyOf (exec (.b2f #v[0x01, 0x23, 0x45, 0x67, 0x89]) State.reset) =
    some ⟨.ok, some (.frame ⟨0x01, 0x23, 0x45, 0x67, 0x89⟩)⟩ := rfl

theorem test_decb_length : replyOf (exec (.decb [0x10, 0, 0, 1, 0x11, 0]) State.reset) = some ⟨.wrongLength, none⟩ := rfl

theorem test_decb_checksum : decodeBytes xor8 [0x10, 0, 0, 1, 0x11] = .ok ⟨0x10, 0, 0, 1, 0x11⟩ ∧
    decodeBytes xor8 [0x10, 0, 0, 2, 0x11] = .error .checksumMismatch := ⟨rfl, rfl⟩

theorem test_f2i : replyOf (exec (.f2i ⟨0x4B, 0x00, 0x00, 0x01, 0x4A⟩) State.reset) =
    some ⟨.ok, some (.int 322122547530)⟩ := by decide

theorem test_i2f : replyOf (exec (.i2f 737894400031) State.reset) =
    some ⟨.ok, some (.frame ⟨0xAB, 0xCD, 0xEF, 0x00, 0x1F⟩)⟩ := by decide

/-! ### Hexadecimal text (section 6) -/

theorem test_f2h : replyOf (exec (.f2h ⟨0x4C, 0x00, 0x12, 0x34, 0x6A⟩) State.reset) =
    some ⟨.ok, some (.text [0x34, 0x43, 0x30, 0x30, 0x31, 0x32, 0x33, 0x34, 0x36, 0x41])⟩ := by decide

/-- `H2F "aBcDeF0089"` and `H2F "1000000110"`. -/
theorem test_h2f_checksum :
    decodeHex xor8 [0x61, 0x42, 0x63, 0x44, 0x65, 0x46, 0x30, 0x30, 0x38, 0x39] = .ok ⟨0xAB, 0xCD, 0xEF, 0x00, 0x89⟩ ∧
    decodeHex xor8 [0x31, 0x30, 0x30, 0x30, 0x30, 0x30, 0x30, 0x31, 0x31, 0x30] = .error .checksumMismatch := ⟨rfl, rfl⟩

/-- `H2F "10000001G0"`: the digit check precedes the checksum check. -/
theorem test_h2f_bad_digit :
    replyOf (exec (.h2f [0x31, 0x30, 0x30, 0x30, 0x30, 0x30, 0x30, 0x31, 0x47, 0x30]) State.reset) =
      some ⟨.wrongLength, none⟩ := rfl

/-! ### Sequencer (section 7) -/

theorem test_start_opens : phaseOf (exec (.start 10 20 5) State.reset) = some .warmup := rfl

theorem test_start_twice : exec (.start 1 1 1) (running .warmup) =
    .next { running .warmup with reply := some ⟨.refused, none⟩ } := rfl

/-- The row of section 7.2. -/
theorem test_classify_row :
    ([0, 5, 9, 10, 15, 25, 29, 30, 32, 34, 35, 36, 100, 4294967295].map (classifyTime ⟨10, 20, 5⟩)) =
      [.warmup, .warmup, .warmup, .lase, .lase, .lase, .lase, .cool, .cool, .cool, .cool, .cool, .cool, .cool] := by decide

/-- `CLASSIFY` is not refused in QUIT while `DV = 1`. -/
theorem test_classify_in_quit : replyOf (exec (.classify 15) (running .quit)) = some ⟨.ok, some (.phase .lase)⟩ := rfl

/-- The `ON5` row of section 7.3, and the same tick of a block whose `DUTY_HALF` is 127 (C8). -/
theorem test_tick_fires : exec (.tick 12) (running .warmup) = .next lasing ∧
    (tick { OpenConfig.fcps with dutyHalf := 127 } 12 (running .warmup)).pwmDuty = some 127 := ⟨rfl, rfl⟩

/-- LASE to COOL at `TICK 30`: `OFF2`. -/
theorem test_tick_cools : exec (.tick 30) lasing = .next { lasing with
    phase := .cool, oEn := some 0, pwmDuty := some 0,
    outlog := startLaser Config.fcps ++ [.setPwmDuty .pulse 0, .writeDigital .enable 0],
    reply := some ⟨.ok, some (.phase .cool)⟩ } := rfl

/-- `QUIT` from reset emits `OFF2`. -/
theorem test_quit_from_reset : exec .quit State.reset = .next { State.reset with
    phase := .quit, oEn := some 0, pwmDuty := some 0, outlog := [.setPwmDuty .pulse 0, .writeDigital .enable 0],
    reply := some ⟨.ok, none⟩ } := rfl

/-- `QUIT` in QUIT emits `OFF2` again. -/
theorem test_quit_twice : (replyOf (exec .quit (running .quit)), phaseOf (exec .quit (running .quit))) =
    (some ⟨.ok, none⟩, some .quit) := rfl

/-! ### Witnesses: for each obligation with hypotheses, values that meet them together -/

theorem witness_EncodeDecodeAreInverse : decode ⟨0x130, Ports.zero⟩ = .ok .quit ∧
    (⟨0x130, Ports.zero⟩ : Request).canonical = true ∧ encode .quit = ⟨0x130, Ports.zero⟩ := ⟨rfl, by decide, rfl⟩

theorem witness_OperationMapMatchesDecoder : decode ⟨0x01F, Ports.zero⟩ = .ok (.pack 0 0 0 0) ∧
    (⟨"PACK", 0x010, 0x1F0⟩ : OpRow) ∈ opRows ∧ (⟨"PACK", 0x010, 0x1F0⟩ : OpRow).fits 0x01F = true :=
  ⟨rfl, by decide, by decide⟩

/-- Every clause of R81 and R82 at its ends. -/
theorem witness_ReservedSelectorsAreRefused :
    (∀ sel ∈ [0x0C0, 0x0CF, 0x0F0, 0x0FF], 0x0C ≤ (⟨sel, Ports.zero⟩ : Request).op.toNat ∧
      (⟨sel, Ports.zero⟩ : Request).op.toNat ≤ 0x0F ∧ (issued sel).inbox = [.op ⟨sel, Ports.zero⟩]) ∧
    (∀ sel ∈ [0x140, 0x14F, 0x1F0, 0x1FF], 0x14 ≤ (⟨sel, Ports.zero⟩ : Request).op.toNat ∧
      (⟨sel, Ports.zero⟩ : Request).op.toNat ≤ 0x1F) ∧
    (∀ sel ∈ [0x00D, 0x00F], (⟨sel, Ports.zero⟩ : Request).op.toNat = 0x00 ∧
      13 ≤ (⟨sel, Ports.zero⟩ : Request).var.toNat) := by decide

theorem witness_StepRunsDecodedOperation : (issued 0x130).inbox = .op ⟨0x130, Ports.zero⟩ :: [] ∧
    decode ⟨0x130, Ports.zero⟩ = .ok .quit := ⟨rfl, rfl⟩

theorem witness_ResetEventRestoresResetValues : (lasing.issue [.reset, .reset]).inbox = .reset :: [.reset] := rfl

theorem witness_IdleStepChangesNothing : lasing.inbox = [] := rfl

theorem witness_OperationsTakeEffectInIssueOrder :
    (State.reset.issue [.op (encode (.start 1 1 1)), .op (encode (.tick 1)), .reset]).inbox =
      [Instr.start 1 1 1, .tick 1].map (fun i => .op (encode i)) ++ [.reset] := rfl

/-- Every row of R75 fits its own selector, and with mask 0x1F0 any `var`: the hypothesis of `Selects`. -/
theorem witness_Selects : (∀ row ∈ opRows, row.selMatch &&& row.mask = row.selMatch) ∧
    (∀ row ∈ otherRows, (row.selMatch ||| 0x00F) &&& row.mask = row.selMatch) := by decide

/-- A valid and an invalid frame exist whatever `CK` is (R108): for `VALIDATE`, `UNPACK`, `DECB`, `H2F`. -/
theorem witness_valid_and_invalid (ck : Checksum) (h a b c : Byte) :
    ValidFrame ck ⟨h, a, b, c, ck h a b c⟩ ∧ ¬ValidFrame ck ⟨h, a, b, c, ck h a b c + 1⟩ :=
  ⟨rfl, byte_ne_succ _⟩

theorem witness_ValidateComparesTheChecksum :
    Config.fcps.ck 1 2 3 4 = (⟨1, 2, 3, 4, Config.fcps.ck 1 2 3 4⟩ : Frame).checksum ∧
    Config.fcps.ck 1 2 3 4 ≠ (⟨1, 2, 3, 4, Config.fcps.ck 1 2 3 4 + 1⟩ : Frame).checksum :=
  witness_valid_and_invalid _ 1 2 3 4

theorem witness_UnpackInvertsPack : exec (.unpack ⟨1, 2, 3, 4, 5⟩) State.reset =
    .next { State.reset with reply := some ⟨.ok, some (.fields 1 2 3 4 5)⟩ } := rfl

/-- XOR8 is sensitive: the premise of R111 can be met. -/
theorem witness_CkSensitive : CkSensitive xor8 := by
  intro h a b c h' a' b' c' hd
  unfold xor8
  rcases hd with ⟨hn, rfl, rfl, rfl⟩ | ⟨rfl, hn, rfl, rfl⟩ | ⟨rfl, rfl, hn, rfl⟩ | ⟨rfl, rfl, rfl, hn⟩ <;>
    simpa using hn

theorem witness_ChecksumRejection :
    checkFrame xor8 ⟨0x10, 0, 0, 1, 0x11⟩ = .ok ⟨0x10, 0, 0, 1, 0x11⟩ ∧
    MutatesOneByte ⟨0x10, 0, 0, 1, 0x11⟩ ⟨0x11, 0, 0, 1, 0x11⟩ ∧ MutatesOneByte ⟨0x10, 0, 0, 1, 0x11⟩ ⟨0x10, 0xFF, 0, 1, 0x11⟩ ∧
    MutatesOneByte ⟨0x10, 0, 0, 1, 0x11⟩ ⟨0x10, 0, 1, 1, 0x11⟩ ∧ MutatesOneByte ⟨0x10, 0, 0, 1, 0x11⟩ ⟨0x10, 0, 0, 0x81, 0x11⟩ ∧
    checkFrame (fun _ _ _ _ => 0x11) ⟨0x10, 0, 0, 1, 0x11⟩ = .ok ⟨0x10, 0, 0, 1, 0x11⟩ ∧ (0x10 : Byte) ≠ 0x11 :=
  ⟨rfl, .inl (by decide), .inr (.inl (by decide)), .inr (.inr (.inl (by decide))), .inr (.inr (.inr (by decide))), rfl,
    by decide⟩

theorem witness_CodecIsPureAndTotal : (Instr.decb []).isFcu = true ∧ (Instr.encSetprr 0).isFcu = true := ⟨rfl, rfl⟩

theorem witness_DecbChecksLengthThenChecksum : ([] : ByteSeq).length ≠ 5 ∧ ([1, 2, 3, 4] : ByteSeq).length ≠ 5 ∧
    ([1, 2, 3, 4, 5, 6] : ByteSeq).length ≠ 5 ∧ Config.fcps.ck 1 2 3 4 ≠ Config.fcps.ck 1 2 3 4 + 1 :=
  ⟨by decide, by decide, by decide, byte_ne_succ _⟩

theorem witness_DecbInvertsFrameToBytes :
    exec (.decb [1, 2, 3, 4, Config.fcps.ck 1 2 3 4]) State.reset =
      .next { State.reset with reply := some ⟨.ok, some (.frame ⟨1, 2, 3, 4, Config.fcps.ck 1 2 3 4⟩)⟩ } := by
  simp only [exec, execDecb, decodeBytes_five, checkFrame_valid (witness_valid_and_invalid Config.fcps.ck 1 2 3 4).1]
  rfl

/-- The ends of every range of R141 and R142, and the codes just outside. -/
theorem witness_HexDigitCodes :
    [0x30, 0x39, 0x41, 0x46, 0x61, 0x66].map hexVal = [some 0, some 9, some 10, some 15, some 10, some 15] ∧
    [0x2F, 0x3A, 0x40, 0x47, 0x60, 0x67, 0x00, 0xFF].map hexVal = [none, none, none, none, none, none, none, none] ∧
    [0, 9, 10, 15].map hexChar = [0x30, 0x39, 0x41, 0x46] := by decide

theorem witness_HexTextIsUpperCaseAndInjective : exec (.f2h ⟨0, 0, 0, 0, 0x0A⟩) State.reset =
    .next { State.reset with
      reply := some ⟨.ok, some (.text [0x30, 0x30, 0x30, 0x30, 0x30, 0x30, 0x30, 0x30, 0x30, 0x41])⟩ } := rfl

/-- Ten zeros but for the last two digits, which spell `k`. -/
def zerosThen (k : Byte) : Text :=
  [0x30, 0x30, 0x30, 0x30, 0x30, 0x30, 0x30, 0x30, hexChar (k.extractLsb' 4 4), hexChar (k.extractLsb' 0 4)]

/-- Text that spells the frame `0, 0, 0, 0, k`: so a text of a valid and one of an invalid frame exist whatever `CK` is. -/
theorem witness_HexToFrameChecksThenDecodes (k : Byte) :
    (zerosThen k).length = 10 ∧ (∀ ch ∈ zerosThen k, hexVal ch ≠ none) ∧
    ((List.range 10).map fun i => (((zerosThen k)[i]?.bind hexVal).getD 0) * 16 ^ (9 - i)).sum = k.toNat := by
  have h : ∀ n : BitVec 4, hexVal (hexChar n) = some n.toNat := by decide
  have hk : ∀ k : Byte, (k.extractLsb' 4 4).toNat * 16 + (k.extractLsb' 0 4).toNat = k.toNat := by decide
  have h0 : hexVal 48#8 = some 0 := rfl
  refine ⟨rfl, by simp [zerosThen, h, h0], ?_⟩
  show (hexVal 48#8).getD 0 * 16 ^ 9 + ((hexVal 48#8).getD 0 * 16 ^ 8 + ((hexVal 48#8).getD 0 * 16 ^ 7 +
    ((hexVal 48#8).getD 0 * 16 ^ 6 + ((hexVal 48#8).getD 0 * 16 ^ 5 + ((hexVal 48#8).getD 0 * 16 ^ 4 +
    ((hexVal 48#8).getD 0 * 16 ^ 3 + ((hexVal 48#8).getD 0 * 16 ^ 2 +
    ((hexVal (hexChar (k.extractLsb' 4 4))).getD 0 * 16 ^ 1 +
      ((hexVal (hexChar (k.extractLsb' 0 4))).getD 0 * 16 ^ 0 + 0))))))))) = _
  rw [h, h, h0, ← hk k]
  simp

/-- The two ways to the first clause of R146. -/
theorem witness_wrong_length : ([] : Text).length ≠ 10 ∧ (∃ ch ∈ ([0x47] : Text), hexVal ch = none) := by decide

theorem hex_zerosThen : ∀ k : Byte, frameToHex ⟨0, 0, 0, 0, k⟩ = zerosThen k := by decide

theorem digits_zerosThen : ∀ k : Byte,
    (hexDigits (zerosThen k)).map (fun ds => intToFrame (BitVec.ofNat 40 (digitsValue ds))) = some ⟨0, 0, 0, 0, k⟩ := by
  decide

/-- A text that `H2F` accepts, whatever `CK` is; its lower-case spelling has the same upper-case form. -/
theorem witness_HexRoundTrip :
    exec (.h2f (zerosThen (Config.fcps.ck 0 0 0 0))) State.reset =
      .next { State.reset with reply := some ⟨.ok, some (.frame ⟨0, 0, 0, 0, Config.fcps.ck 0 0 0 0⟩)⟩ } ∧
    ([0x61, 0x66] : Text).map upperCase = ([0x41, 0x46] : Text).map upperCase := by
  refine ⟨?_, by decide⟩
  obtain ⟨ds, hd, hf⟩ := Option.map_eq_some_iff.mp (digits_zerosThen (Config.fcps.ck 0 0 0 0))
  simp only [exec, execH2f, decodeHex_digits rfl hd, hf,
    checkFrame_valid (witness_valid_and_invalid Config.fcps.ck 0 0 0 0).1]
  rfl

/-- Ten upper-case digits. -/
theorem witness_HexRoundTrip_digits : (zerosThen 0xAF).length = 10 ∧
    ∀ ch ∈ zerosThen 0xAF, (0x30 ≤ ch.toNat ∧ ch.toNat ≤ 0x39) ∨ (0x41 ≤ ch.toNat ∧ ch.toNat ≤ 0x46) := by decide

/-- Each rejected character in a text of ten, and lengths 9 and 11. -/
theorem witness_RejectedTexts :
    (List.replicate 9 (0x31 : Byte)).length < 10 ∧ 10 < (List.replicate 11 (0x31 : Byte)).length ∧
    (∀ ch ∈ ([0x20, 0x67, 0x47, 0x78, 0x2B, 0x2D, 0x2E] : Text),
      (ch :: List.replicate 9 0x31).length = 10 ∧ ch ∈ ch :: List.replicate 9 0x31) ∧
    (∃ ch ∈ ((0x80 : Byte) :: List.replicate 9 0x31), 0x80 ≤ ch.toNat) := by decide

theorem witness_StartOpensTheRun : State.reset.phase = .wait ∧ (running .warmup).phase ≠ .wait ∧
    (running .quit).phase ≠ .wait := by decide

theorem witness_ClassifyGivesThePhase : (running .warmup).durations = some ⟨10, 20, 5⟩ ∧ State.reset.dv = false := by
  decide

/-- The boundary cases of R165. -/
theorem witness_ClassifyProperties :
    ((10 : Seconds).toNat = (⟨10, 20, 5⟩ : Durations).wsec.toNat ∧ 0 < (⟨10, 20, 5⟩ : Durations).lsec.toNat) ∧
    (30 : Seconds).toNat = (⟨10, 20, 5⟩ : Durations).wsec.toNat + (⟨10, 20, 5⟩ : Durations).lsec.toNat ∧
    (⟨0, 3, 0⟩ : Durations).wsec = 0 ∧ (⟨5, 0, 5⟩ : Durations).lsec = 0 ∧
    10 + 20 + 5 ≤ (35 : Seconds).toNat ∧ (5 : Seconds) ≤ 5 := by decide

theorem witness_RefusedBeforeStart : State.reset.dv = false ∧
    ({ State.reset with phase := .quit } : State).dv = false := by decide

/-- Every clause of the transition table, at the boundary times: WARMUP at 9, LASE at 10 and 29, COOL at 30. -/
theorem witness_TickFollowsTheTransitionTable :
    [9, 10, 29, 30].map (classifyTime ⟨10, 20, 5⟩) = [.warmup, .lase, .lase, .cool] ∧
    (running .warmup).durations = some ⟨10, 20, 5⟩ ∧ (running .warmup).phase ≠ .quit ∧ (running .lase).phase ≠ .quit ∧
    (running .cool).phase ≠ .quit ∧ State.reset.dv = false ∧ (running .quit).phase = .quit := by decide

theorem witness_QuitIsTerminal : (running .quit).phase = .quit ∧ Instr.tick 0 ≠ .quit := by decide

theorem witness_ShutdownHoldsUntilReset : HostEvent.reset ∉ (lasing.issue [.op (encode (.tick 15))]).inbox := by decide

/-- The events of program P4 and of one tick after it. -/
def p4 : List HostEvent := [.op (encode (.start 10 20 5)), .op (encode (.tick 0)), .op (encode (.tick 12))]

/-- A run that meets the premises of R177 and R180 and fires the laser once. -/
theorem witness_LaserStartsExactlyOnce : HostEvent.reset ∉ p4 ∧ MonotoneT p4 ∧
    afterSteps 3 (State.reset.issue p4) = some lasing ∧
    ∃ u, afterSteps 2 (State.reset.issue p4) = some u ∧ FiresLaser u := by
  refine ⟨by decide, ?_, rfl, _, rfl, encode (.tick 12), [], 12, ⟨10, 20, 5⟩, rfl, rfl, rfl, rfl, by decide, by decide⟩
  show List.Pairwise (· ≤ ·) [(0 : Seconds), 12]
  decide

/-- A run under the same premises in which it never fires (program P6). -/
theorem witness_LaserNeverStarts :
    (afterSteps 3 (State.reset.issue [.op (encode (.start 10 1 5)), .op (encode (.tick 9)), .op (encode (.tick 12))])).map
      (fun s => (s.phase, s.outlog)) = some (.cool, []) := rfl

theorem witness_BackwardTimeIsTakenLiterally : lasing.durations = some ⟨10, 20, 5⟩ ∧ lasing.phase = .lase ∧
    phaseRank (classifyTime ⟨10, 20, 5⟩ 3) < phaseRank lasing.phase ∧
    (3 : Seconds).toNat < (⟨10, 20, 5⟩ : Durations).wEnd ∧ (⟨10, 20, 5⟩ : Durations).wEnd ≤ (10 : Seconds).toNat ∧
    (29 : Seconds).toNat < (⟨10, 20, 5⟩ : Durations).lEnd := ⟨rfl, rfl, by decide, by decide, by decide, by decide⟩

/-- A state in LASE meets `OnTime`, with a later `TICK` issued. -/
theorem witness_OnTimeIsKeptByEveryStep : OnTime 12 (lasing.issue [.op (encode (.tick 15))]) ∧
    tickTime (.op (encode (.tick 15))) = some 15 ∧ (12 : Seconds) ≤ 15 ∧
    ∃ t, step (lasing.issue [.op (encode (.tick 15))]) = .next t := by
  refine ⟨⟨⟨fun _ => ⟨rfl, rfl, rfl, rfl⟩, fun h => absurd rfl h⟩, fun h => ?_, fun _ => ⟨_, rfl, by decide⟩, fun h => ?_⟩,
    rfl, by decide, _, rfl⟩
  · cases h
  · cases h

/-- A state in LASE meets `Coherent`, and a step from it answers. -/
theorem witness_CoherenceIsKeptByEveryStep : Coherent lasing ∧ step lasing = .next lasing := by
  refine ⟨⟨⟨rfl, rfl, rfl, rfl, rfl⟩, fun c hc => .inl hc, fun h => ?_, fun _ _ h => ?_, fun h => ?_⟩, rfl⟩
  · cases h
  · cases h
  · cases h

/-- Each listed operation does write: the premises of R23's and R28's implications occur. -/
theorem witness_OnlyListedOperationsWriteState :
    (phaseOf (exec (.start 1 1 1) State.reset) ≠ some State.reset.phase) ∧
    exec (.tick 12) (running .warmup) = .next lasing ∧ lasing.oEn ≠ (running .warmup).oEn ∧
    lasing.oPl ≠ (running .warmup).oPl ∧ lasing.pwmDuty ≠ (running .warmup).pwmDuty ∧
    lasing.outlog ≠ (running .warmup).outlog :=
  ⟨by decide, rfl, by decide, by decide, by decide, fun h => by cases h⟩

theorem witness_DurationsAreWrittenOnce : State.reset.dv = false ∧ Coherent lasing ∧ lasing.dv = true :=
  ⟨rfl, witness_CoherenceIsKeptByEveryStep.1, rfl⟩

/-- Each error status occurs. -/
theorem witness_ErrorResultsArePrecise :
    replyOf (exec (.decb []) State.reset) = some ⟨.wrongLength, none⟩ ∧
    replyOf (exec (.tick 0) State.reset) = some ⟨.refused, none⟩ ∧
    replyOf (exec (.validate ⟨1, 2, 3, 4, Config.fcps.ck 1 2 3 4 + 1⟩) State.reset) = some ⟨.checksumMismatch, none⟩ := by
  refine ⟨rfl, rfl, ?_⟩
  simp only [exec, execValidate_eq, replyOf, if_neg (witness_valid_and_invalid Config.fcps.ck 1 2 3 4).2]

/-- A request for each cause of R203's table, and one that is accepted. -/
theorem witness_RefusedCauses :
    [0x0C0, 0x1F0, 0x00D, 0x110, 0x120].map (fun sel => replyOf (step (issued sel))) =
      List.replicate 5 (some ⟨.refused, none⟩) ∧
    replyOf (step ((running .warmup).issue [.op ⟨0x100, Ports.zero⟩])) = some ⟨.refused, none⟩ ∧
    replyOf (step ((running .quit).issue [.op ⟨0x120, Ports.zero⟩])) = some ⟨.refused, none⟩ ∧
    replyOf (step (issued 0x100)) = some ⟨.ok, none⟩ := ⟨rfl, rfl, rfl, rfl⟩

theorem witness_OnlyResetLeavesQuit : phaseOf (step ((running .quit).issue [.reset])) = some .wait ∧
    (running .quit).phase = .quit := ⟨rfl, rfl⟩

end Sys2Proof.Tests
end

section
/-! The step on a request that decodes. -/

namespace Sys2Proof.Machine

/-- Of the four things a step can do (`step_cases`), a decoded request at the head of `inbox` leaves one (R57, R58). -/
theorem step_of_decode_ok {s : State} {r : Request} {rest : List HostEvent} {i : Instr}
    (h : s.inbox = .op r :: rest) (hd : decode r = .ok i) : step s = exec i { s with inbox := rest } := by
  obtain ⟨h', -⟩ | ⟨_, h', -⟩ | ⟨_, _, _, h', hd', e⟩ | ⟨_, _, _, h', hd', -⟩ := step_cases s <;> rw [h] at h' <;> cases h'
  · rw [hd] at hd'
    cases hd'
    exact e
  · rw [hd] at hd'
    cases hd'

/-- Settles O4: the request's event is at the head of `inbox`, so `step_of_decode_ok` applies. -/
theorem stepRunsDecodedOperation : Obligations.StepRunsDecodedOperation :=
  fun _ _ _ _ h hd => step_of_decode_ok h hd

end Sys2Proof.Machine
end

section
/-! Writing a command and recording it are one: the latches stay the record of `OUTLOG` (R28 to R34). -/

namespace Sys2Proof.Machine

/-- After one command each latch holds the value the command commands for it, or what it held (R33). -/
theorem emit_latches_eq (c : GpioCmd) (s : State) :
    (emit c s).oEn = (levelWritten .enable c).or s.oEn ∧ (emit c s).oSh = (levelWritten .shutter c).or s.oSh ∧
    (emit c s).oPl = (levelWritten .pulse c).or s.oPl ∧ (emit c s).pwmHz = (hzWritten c).or s.pwmHz ∧
    (emit c s).pwmDuty = (dutyWritten c).or s.pwmDuty := by
  cases c with
  | writeDigital l v => cases l <;> exact ⟨rfl, rfl, rfl, rfl, rfl⟩
  | setPwmFrequency l hz => cases l <;> exact ⟨rfl, rfl, rfl, rfl, rfl⟩
  | setPwmDuty l d => cases l <;> exact ⟨rfl, rfl, rfl, rfl, rfl⟩
  | delay us => exact ⟨rfl, rfl, rfl, rfl, rfl⟩

/-- The last value a log commands, when the log grows by one command. -/
theorem getLast?_filterMap_concat {α : Type} (f : GpioCmd → Option α) (log : List GpioCmd) (c : GpioCmd) :
    ((log ++ [c]).filterMap f).getLast? = (f c).or (log.filterMap f).getLast? := by
  cases h : f c <;> simp [h]

theorem latchesRecord_emit {s : State} (h : LatchesRecord s) (c : GpioCmd) : LatchesRecord (emit c s) := by
  obtain ⟨hEn, hSh, hPl, hHz, hDuty⟩ := h
  simp only [LatchesRecord, emit_outlog, getLast?_filterMap_concat, ← hEn, ← hSh, ← hPl, ← hHz, ← hDuty]
  exact emit_latches_eq c s

theorem latchesRecord_emitAll {s : State} (h : LatchesRecord s) (cmds : List GpioCmd) :
    LatchesRecord (emitAll cmds s) := by
  induction cmds generalizing s with
  | nil => exact h
  | cons c cmds ih => exact ih (latchesRecord_emit h c)

/-- Settles O59: each command of R33 with its latch is one arm of `latch`. -/
theorem emitAppendsAndLatches : Obligations.EmitAppendsAndLatches :=
  fun _ => ⟨fun _ => rfl, fun _ => rfl, fun _ => rfl, fun _ => rfl, fun _ => rfl, fun _ => rfl⟩

end Sys2Proof.Machine
end

section
/-! The invariant `Coherent`: kept by every step, so it holds of every state reached from reset. -/

namespace Sys2Proof.Machine

/-- A change of phase is its commands and then the phase; no change is no command (R169, R170). -/
theorem changePhase_eq (cfg : Config) (new : Phase) (s : State) :
    changePhase cfg new s = { emitAll (transitionCommands cfg s.phase new) s with phase := new } := by
  unfold changePhase
  split
  · subst new
    cases h : s.phase <;> simp [transitionCommands, ← h]
  · rfl

theorem mem_transitionCommands {cfg : Config} {old new : Phase} {c : GpioCmd}
    (h : c ∈ transitionCommands cfg old new) : c ∈ startLaser cfg ∨ c ∈ stopLaser := by
  obtain ⟨-, -, e⟩ | ⟨-, -, e⟩ | ⟨-, -, e⟩ := transitionCommands_cases cfg old new <;> rw [e] at h
  · exact .inl h
  · exact .inr h
  · cases h

/-- The phase a time is in is neither WAIT nor QUIT (R165 a). -/
theorem classifyTime_running (d : Durations) (t : Seconds) : classifyTime d t ≠ .wait ∧ classifyTime d t ≠ .quit := by
  obtain ⟨e, -⟩ | ⟨e, -⟩ | ⟨e, -⟩ := classifyTime_cases d t <;> simp [e]

section

variable {s : State}

/-- `Coherent` does not look at the model's own fields. -/
theorem Coherent.with_host (h : Coherent s) (inbox : List HostEvent) (reply : Option Completion) :
    Coherent { s with inbox, reply } :=
  ⟨h.latches, h.commands, h.waiting, h.running, h.ended⟩

/-- Emitting the commands of R172 and R173 leaves only such commands in `OUTLOG`. -/
theorem Coherent.commands_emitAll (h : Coherent s) {cmds : List GpioCmd}
    (hc : ∀ c ∈ cmds, c ∈ startLaser Config.fcps ∨ c ∈ stopLaser) :
    ∀ c ∈ (emitAll cmds s).outlog, c ∈ startLaser Config.fcps ∨ c ∈ stopLaser := by
  intro c hm
  rw [emitAll_outlog] at hm
  exact (List.mem_append.mp hm).elim (h.commands c) (hc c)

/-- An accepted `START` enters WARMUP with durations. -/
theorem Coherent.start (h : Coherent s) (d : Durations) (reply : Option Completion) :
    Coherent { s with durations := some d, phase := .warmup, reply } where
  latches := h.latches
  commands := h.commands
  waiting hw := nomatch hw
  running _ _ hd := nomatch hd
  ended hq := nomatch hq

/-- An accepted `TICK` enters a running phase, and the durations stand. -/
theorem Coherent.changePhase (h : Coherent s) {d : Durations} (hd : s.durations = some d) (t : Seconds) :
    Coherent (changePhase Config.fcps (classifyTime d t) s) := by
  rw [changePhase_eq]
  obtain ⟨hWait, hQuit⟩ := classifyTime_running d t
  exact {
    latches := latchesRecord_emitAll h.latches _
    commands := h.commands_emitAll fun _ => mem_transitionCommands
    waiting := fun hw => absurd hw hWait
    running := fun _ _ => by simp [hd]
    ended := fun hq => absurd hq hQuit }

/-- `QUIT` leaves `SAFE` (R175). -/
theorem Coherent.quit (h : Coherent s) (reply : Option Completion) :
    Coherent { emitAll stopLaser s with phase := .quit, reply } where
  latches := latchesRecord_emitAll h.latches stopLaser
  commands := h.commands_emitAll fun _ => .inr
  waiting hw := nomatch hw
  running _ hq := absurd rfl hq
  ended _ := by rw [emitAll_stopLaser]; exact ⟨rfl, rfl⟩

/-- Every operation keeps the invariant. -/
theorem exec_coherent (h : Coherent s) {i : Instr} {t : State} (ht : exec i s = .next t) : Coherent t := by
  obtain ⟨c, e⟩ | ⟨ws, ls, cs, -, -, e⟩ | ⟨time, d, -, hd, -, e⟩ | ⟨-, e⟩ := exec_cases i s <;> rw [e] at ht <;> cases ht
  · exact h.with_host _ _
  · exact h.start _ _
  · exact (h.changePhase hd time).with_host _ _
  · have hq := h.quit (some ⟨.ok, none⟩)
    rwa [emitAll_stopLaser] at hq

/-- Reset gives a state that meets the invariant, whatever the state before (R230, R41). -/
theorem coherent_resetBlock (s : State) : Coherent (resetBlock s) where
  latches := ⟨rfl, rfl, rfl, rfl, rfl⟩
  commands _ hc := nomatch hc
  waiting _ := ⟨rfl, rfl⟩
  running hw := absurd rfl hw
  ended hq := nomatch hq

/-- Every step keeps the invariant: an operation, a reset, a refused selector and the idle step. -/
theorem step_coherent (h : Coherent s) {t : State} (ht : step s = .next t) : Coherent t := by
  obtain ⟨-, e⟩ | ⟨rest, -, e⟩ | ⟨r, rest, i, -, -, e⟩ | ⟨r, rest, er, -, -, e⟩ := step_cases s <;> rw [e] at ht
  · cases ht; exact h
  · cases ht; exact coherent_resetBlock _
  · exact exec_coherent (h.with_host rest s.reply) ht
  · cases ht; exact h.with_host _ _

end

/-- Settles O46: `step_coherent`. -/
theorem coherenceIsKeptByEveryStep : Obligations.CoherenceIsKeptByEveryStep :=
  fun _ _ h => step_coherent h

end Sys2Proof.Machine
end

section
/-! What an operation does to the latches and to the durations; what holds along every run. -/

namespace Sys2Proof.Machine

theorem exec_next (i : Instr) (s : State) : ∃ t, exec i s = .next t := by
  obtain ⟨_, e⟩ | ⟨_, _, _, -, -, e⟩ | ⟨_, _, -, -, -, e⟩ | ⟨-, e⟩ := exec_cases i s <;> exact ⟨_, e⟩

/-- The block never stops (R200). -/
theorem step_next (s : State) : ∃ t, step s = .next t := by
  obtain ⟨-, e⟩ | ⟨_, -, e⟩ | ⟨_, rest, i, -, -, e⟩ | ⟨_, _, _, -, -, e⟩ := step_cases s
  · exact ⟨_, e⟩
  · exact ⟨_, e⟩
  · rw [e]; exact exec_next i _
  · exact ⟨_, e⟩

/-- What every step keeps holds after any number of steps, and there is a state after them. -/
theorem afterSteps_of_invariant {P : State → Prop} (hstep : ∀ s t, P s → step s = .next t → P t) (k : Nat) {s : State}
    (hs : P s) : ∃ t, afterSteps k s = some t ∧ P t := by
  induction k generalizing s with
  | zero => exact ⟨s, rfl, hs⟩
  | succ k ih =>
    obtain ⟨t, ht⟩ := step_next s
    simp only [afterSteps, ht]
    exact ih (hstep s t hs ht)

/-- Every state reached from reset is coherent, whatever the host has issued. -/
theorem coherent_afterSteps_reset (es : List HostEvent) (k : Nat) :
    ∃ s, afterSteps k (State.reset.issue es) = some s ∧ Coherent s :=
  afterSteps_of_invariant (fun _ _ h => step_coherent h) k (coherent_resetBlock (State.reset.issue es))

/-- All that an operation can do to the latches: nothing, the five commands, or the two (R172, R173, R175). -/
theorem exec_latches_cases (i : Instr) (s : State) : ∃ t, exec i s = .next t ∧
    ((t.oEn = s.oEn ∧ t.oSh = s.oSh ∧ t.oPl = s.oPl ∧ t.pwmHz = s.pwmHz ∧ t.pwmDuty = s.pwmDuty) ∨
    (((∃ time, i = .tick time) ∧ s.phase = .warmup ∧ t.phase = .lase) ∧
      t.oEn = some 1 ∧ t.oSh = s.oSh ∧ t.oPl = some 0 ∧ t.pwmHz = some Config.fcps.laserHz ∧
      t.pwmDuty = some Config.fcps.dutyHalf) ∨
    ((((∃ time, i = .tick time) ∧ s.phase = .lase ∧ t.phase = .cool) ∨ i = .quit) ∧
      t.oEn = some 0 ∧ t.oSh = s.oSh ∧ t.oPl = s.oPl ∧ t.pwmHz = s.pwmHz ∧ t.pwmDuty = some 0)) := by
  obtain ⟨c, e⟩ | ⟨ws, ls, cs, -, -, e⟩ | ⟨time, d, hi, -, -, e⟩ | ⟨hi, e⟩ := exec_cases i s
  · exact ⟨_, e, .inl ⟨rfl, rfl, rfl, rfl, rfl⟩⟩
  · exact ⟨_, e, .inl ⟨rfl, rfl, rfl, rfl, rfl⟩⟩
  · refine ⟨_, e, ?_⟩
    obtain ⟨-, e⟩ | ⟨hp, -, e⟩ | ⟨hp, -, e⟩ | ⟨-, -, -, e⟩ := changePhase_cases Config.fcps (classifyTime d time) s <;>
      rw [e]
    · exact .inl ⟨rfl, rfl, rfl, rfl, rfl⟩
    · rw [emitAll_startLaser]
      exact .inr (.inl ⟨⟨⟨time, hi⟩, hp, rfl⟩, rfl, rfl, rfl, rfl, rfl⟩)
    · rw [emitAll_stopLaser]
      exact .inr (.inr ⟨.inl ⟨⟨time, hi⟩, hp, rfl⟩, rfl, rfl, rfl, rfl, rfl⟩)
    · exact .inl ⟨rfl, rfl, rfl, rfl, rfl⟩
  · exact ⟨_, e, .inr (.inr ⟨.inr hi, rfl, rfl, rfl, rfl, rfl⟩)⟩

/-- The last value a coherent state's `OUTLOG` commands is one that the seven commands of R172 and R173 command. -/
theorem Coherent.mem_commanded {s : State} (h : Coherent s) {α : Type} {f : GpioCmd → Option α} {v : α}
    (hv : (s.outlog.filterMap f).getLast? = some v) : v ∈ (startLaser Config.fcps ++ stopLaser).filterMap f := by
  obtain ⟨c, hc, hf⟩ := List.mem_filterMap.mp (List.mem_of_getLast? hv)
  exact List.mem_filterMap.mpr ⟨c, List.mem_append.mpr (h.commands c hc), hf⟩

/-- The values the latches of a coherent state can hold (R29 to R32). -/
theorem Coherent.latch_values {s : State} (h : Coherent s) :
    s.oSh = none ∧ (s.oPl = none ∨ s.oPl = some 0) ∧ (s.pwmHz = none ∨ s.pwmHz = some Config.fcps.laserHz) ∧
    (s.pwmDuty = none ∨ s.pwmDuty = some 0 ∨ s.pwmDuty = some Config.fcps.dutyHalf) := by
  obtain ⟨-, hSh, hPl, hHz, hDuty⟩ := h.latches
  refine ⟨?_, ?_, ?_, ?_⟩
  · cases e : s.oSh with
    | none => rfl
    | some v => exact nomatch h.mem_commanded (hSh.symm.trans e)
  · cases e : s.oPl with
    | none => exact .inl rfl
    | some v =>
      have hv : v ∈ [0] := h.mem_commanded (hPl.symm.trans e)
      exact .inr (congrArg some (List.mem_singleton.mp hv))
  · cases e : s.pwmHz with
    | none => exact .inl rfl
    | some v =>
      have hv : v ∈ [Config.fcps.laserHz] := h.mem_commanded (hHz.symm.trans e)
      exact .inr (congrArg some (List.mem_singleton.mp hv))
  · cases e : s.pwmDuty with
    | none => exact .inl rfl
    | some v =>
      have hv : v ∈ [Config.fcps.dutyHalf, 0] := h.mem_commanded (hDuty.symm.trans e)
      obtain rfl | rfl := List.mem_pair.mp hv
      · exact .inr (.inr rfl)
      · exact .inr (.inl rfl)

/-- Settles O49: the changes by the three cases of `exec_latches_cases`, the values held by the invariant `Coherent`. -/
theorem latchesHoldTheLastCommand : Obligations.LatchesHoldTheLastCommand := by
  refine ⟨fun i s => ?_, fun es k => ?_⟩
  · obtain ⟨t, ht, ⟨hEn, hSh, hPl, hHz, hDuty⟩ | ⟨hFires, hEn, hSh, hPl, hHz, hDuty⟩ |
      ⟨hOff, hEn, hSh, hPl, hHz, hDuty⟩⟩ := exec_latches_cases i s
    · exact ⟨t, ht, (absurd hEn ·), hSh, (absurd hPl ·), (absurd hHz ·), (absurd hDuty ·)⟩
    · exact ⟨t, ht, fun _ => .inl ⟨hEn, hFires⟩, hSh, fun _ => ⟨hPl, hFires⟩, fun _ => ⟨hHz, hFires⟩,
        fun _ => .inl ⟨hDuty, hFires⟩⟩
    · exact ⟨t, ht, fun _ => .inr ⟨hEn, hOff⟩, hSh, (absurd hPl ·), (absurd hHz ·), fun _ => .inr ⟨hDuty, hOff⟩⟩
  · obtain ⟨s, hs, h⟩ := coherent_afterSteps_reset es k
    exact ⟨s, hs, h.latches, h.latch_values⟩

/-- The durations change only by an accepted `START`, which writes all three (R26). -/
theorem exec_durations_cases (i : Instr) (s : State) : ∃ t, exec i s = .next t ∧
    (t.durations = s.durations ∨
    ∃ ws ls cs, i = .start ws ls cs ∧ s.phase = .wait ∧ t.durations = some ⟨ws, ls, cs⟩ ∧ t.reply = some ⟨.ok, none⟩) := by
  obtain ⟨c, e⟩ | ⟨ws, ls, cs, hi, hw, e⟩ | ⟨time, d, -, -, -, e⟩ | ⟨-, e⟩ := exec_cases i s
  · exact ⟨_, e, .inl rfl⟩
  · exact ⟨_, e, .inr ⟨ws, ls, cs, hi, hw, rfl, rfl⟩⟩
  · exact ⟨_, e, .inl (by rw [changePhase_eq]; exact emitAll_durations s _)⟩
  · exact ⟨_, e, .inl rfl⟩

/-- Settles O50: `START` alone writes the durations, and in a coherent state it finds WAIT only while they hold no
value. -/
theorem durationsAreWrittenOnce : Obligations.DurationsAreWrittenOnce := by
  intro i s
  obtain ⟨t, ht, hd | ⟨ws, ls, cs, hi, hw, hd, hr⟩⟩ := exec_durations_cases i s
  · have hdv : t.dv = s.dv := congrArg Option.isSome hd
    refine ⟨t, ht, fun h0 h1 => ?_, hdv.trans, fun _ _ => hd⟩
    rw [hdv, h0] at h1
    cases h1
  · refine ⟨t, ht, fun _ _ => ⟨ws, ls, cs, hi, hd, hr⟩, fun _ => congrArg Option.isSome hd, fun h hdv => ?_⟩
    rw [State.dv, (h.waiting hw).1] at hdv
    cases hdv

end Sys2Proof.Machine
end

section
/-! The reset values, the codec's frame, and the boundaries of the phases. -/

namespace Sys2Proof.Machine

/-- Settles O19: the codec's half of `exec`. -/
theorem codecIsPureAndTotal : Obligations.CodecIsPureAndTotal :=
  fun _ h => exec_of_isFcu h

/-- Settles O5: the fields of `State.reset`; `SAFE` and energized look at two latches that hold no value. -/
theorem resetStateHoldsTheResetValues : Obligations.ResetStateHoldsTheResetValues :=
  ⟨rfl, rfl, rfl, rfl, rfl, rfl, rfl, rfl, rfl, by decide, by decide⟩

/-- Settles O37: durations below 2^32 sum below 2^34, and the three intervals of `classifyTime_cases` exclude each
other. -/
theorem boundariesAreExactSums : Obligations.BoundariesAreExactSums := by
  refine ⟨fun d => ?_, fun d t => ?_, by decide, by decide⟩
  · have hw := d.wsec.isLt
    have hl := d.lsec.isLt
    have hc := d.csec.isLt
    refine ⟨rfl, rfl, rfl, wEnd_le_lEnd d, Nat.le_add_right _ _, ?_⟩
    unfold Durations.cEnd
    omega
  · have hle := wEnd_le_lEnd d
    obtain ⟨e, h⟩ | ⟨e, h⟩ | ⟨e, h⟩ := classifyTime_cases d t <;> simp only [e, reduceCtorEq, true_iff, false_iff] <;>
      omega

end Sys2Proof.Machine
end

section
/-! Operations run in the order issued: no operation looks at what is still in `inbox`. -/

namespace Sys2Proof.Machine

theorem decode_encode (i : Instr) : decode (encode i) = .ok i := by
  cases i <;> rfl

theorem emitAll_issue (cmds : List GpioCmd) (s : State) (es : List HostEvent) :
    emitAll cmds (s.issue es) = (emitAll cmds s).issue es := by
  induction cmds generalizing s with
  | nil => rfl
  | cons c cmds ih =>
    have hc : emit c (s.issue es) = (emit c s).issue es := by
      cases c with
      | delay us => rfl
      | writeDigital line v => cases line <;> rfl
      | setPwmFrequency line hz => cases line <;> rfl
      | setPwmDuty line d => cases line <;> rfl
    rw [emitAll_cons, emitAll_cons, hc, ih]

theorem changePhase_issue (cfg : Config) (new : Phase) (s : State) (es : List HostEvent) :
    changePhase cfg new (s.issue es) = (changePhase cfg new s).issue es := by
  simp only [changePhase_eq, emitAll_issue]
  rfl

/-- What an operation does is the same whatever is still issued, and it leaves that as it is (R58). -/
theorem exec_issue {i : Instr} {s t : State} (ht : exec i s = .next t) (es : List HostEvent) :
    exec i (s.issue es) = .next (t.issue es) := by
  cases hf : i.isFcu with
  | true =>
    obtain ⟨c, hc⟩ := exec_of_isFcu hf
    cases (hc s).symm.trans ht
    exact hc (s.issue es)
  | false =>
    cases i with
    | start ws ls cs =>
      by_cases h : s.phase = .wait
      · cases (execStart_wait h ws ls cs).symm.trans ht
        exact execStart_wait (s := s.issue es) h ws ls cs
      · cases (execStart_refused h ws ls cs).symm.trans ht
        exact execStart_refused (s := s.issue es) h ws ls cs
    | classify time =>
      obtain h | ⟨d, h⟩ := Option.eq_none_or_eq_some s.durations
      · cases (execClassify_none h time).symm.trans ht
        exact execClassify_none (s := s.issue es) h time
      · cases (execClassify_some h time).symm.trans ht
        exact execClassify_some (s := s.issue es) h time
    | tick time =>
      obtain ⟨h | h, -⟩ | ⟨d, hd, hq, -⟩ := tick_cases Config.fcps time s
      · cases (execTick_none h time).symm.trans ht
        exact execTick_none (s := s.issue es) h time
      · cases (execTick_quit h time).symm.trans ht
        exact execTick_quit (s := s.issue es) h time
      · cases (execTick_some hd hq time).symm.trans ht
        have h := execTick_some (s := s.issue es) hd hq time
        rw [changePhase_issue] at h
        exact h
    | quit =>
      cases (execQuit_eq s).symm.trans ht
      exact execQuit_eq (s.issue es)
    | _ => cases hf

/-- Settles O9, by induction on the operations: the first step runs the first operation with the others still issued,
and by `exec_issue` that is what the operation does with only `rest` issued. -/
theorem operationsTakeEffectInIssueOrder : Obligations.OperationsTakeEffectInIssueOrder := by
  intro is rest s h
  induction is generalizing s with
  | nil =>
    have hs : s.inbox = rest := h
    rw [← hs]
    rfl
  | cons i is ih =>
    obtain ⟨t, ht⟩ := exec_next i s
    have hstep : step s = .next (t.issue _) := (step_of_decode_ok h (decode_encode i)).trans (exec_issue ht _)
    have hop : exec i { s with inbox := rest } = .next (t.issue rest) := exec_issue ht rest
    simp only [List.length_cons, afterSteps, afterOps, hstep, hop]
    exact ih _ rfl

end Sys2Proof.Machine
end

section
/-! The byte, integer and text forms of one frame. -/

namespace Sys2Proof.Machine

/-- The five slices of R129 of a frame's integer are the frame's fields (R52). The slice lemmas of the library want the
width as the sum of the fields' widths, so it is not to be computed. -/
theorem intToFrame_frameToInt (f : Frame) : intToFrame (frameToInt f) = f := by
  have slice (start : Nat) : (frameToInt f).extractLsb' start 8 =
      BitVec.extractLsb' (n := 8 + 8 + 8 + 8 + 8) start 8
        (f.header ++ f.datum1 ++ f.datum2 ++ f.datum3 ++ f.checksum) := rfl
  simp [intToFrame, slice, BitVec.extractLsb'_append_eq_of_le, BitVec.extractLsb'_append_eq_right, -Nat.reduceAdd]

/-- Byte `i` of a frame is the slice `n[39-8i : 32-8i]` of its integer (R54). -/
theorem frameToBytes_getElem (f : Frame) (i : Nat) (hi : i < 5) :
    (frameToBytes f)[i] = (frameToInt f).extractLsb' (32 - 8 * i) 8 := by
  have h := (intToFrame_frameToInt f).symm
  match i, hi with
  | 0, _ => exact congrArg Frame.header h
  | 1, _ => exact congrArg Frame.datum1 h
  | 2, _ => exact congrArg Frame.datum2 h
  | 3, _ => exact congrArg Frame.datum3 h
  | 4, _ => exact congrArg Frame.checksum h

/-- Character `i` of a frame's text is the digit for `n[39-4i : 36-4i]` of its integer (R54, R143). -/
theorem frameToHex_getElem? (f : Frame) {i : Nat} (hi : i < 10) :
    (frameToHex f)[i]? = some (hexChar (hexNibble (frameToInt f) i)) := by
  simp [frameToHex, hi]

/-- Settles O26: the three operations deliver the three forms, which show the slices of the integer form. -/
theorem mixedWidthViewsAgree : Obligations.MixedWidthViewsAgree :=
  fun f _ => ⟨frameToBytes f, frameToInt f, frameToHex f, rfl, rfl, rfl, frameToBytes_getElem f,
    fun _ => frameToHex_getElem? f⟩

end Sys2Proof.Machine
end

section
/-! What decodes: the request of an operation up to an ignored `var` and unread ports (R71, R75, assumption 14). -/

namespace Sys2Proof

@[simp] theorem selOp_append (op : BitVec 5) (var : BitVec 4) : selOp (op ++ var) = op :=
  BitVec.extractLsb'_append_eq_left

/-- A selector is its two fields (R71). -/
theorem selOp_append_selVar (sel : BitVec 9) : selOp sel ++ selVar sel = sel := by
  revert sel
  decide

/-- The mask 0x1F0 clears `var` (R75). -/
theorem and_0x1F0_eq (sel : BitVec 9) : sel &&& 0x1F0 = selOp sel ++ (0 : BitVec 4) := by
  revert sel
  decide

/-- The request of an `ENC.*` operation: `op` is 0, `var` the number of the variant (R75, R76). -/
theorem encode_enc {var : BitVec 4} {v : Variant} (h : variantOf var = .ok v) (arg : Payload) :
    encode (.enc v arg) = ⟨(0 : BitVec 5) ++ var, { Ports.zero with arg }⟩ := by
  unfold variantOf at h
  split at h <;> cases h <;> rename_i hvar <;> rw [(BitVec.toNat_eq_nat.mp hvar).2] <;> rfl

/-- What the decoder reads of a request, the operation's own request has too: the selector, but for a `var` that is
ignored, and the ports that the operation reads. -/
theorem encode_of_decode {r : Request} {i : Instr} (h : decode r = .ok i) :
    (r.op = 0 ∧ (encode i).sel = r.sel ∨ r.op ≠ 0 ∧ (encode i).sel = r.op ++ (0 : BitVec 4)) ∧
    r.portsIdle = (r.ports == (encode i).ports) := by
  obtain ⟨sel, p⟩ := r
  change decodeSel sel p = .ok i at h
  have hsel := selOp_append_selVar sel
  unfold Request.portsIdle Request.op
  unfold decodeSel at h
  split at h
  · have hop : selOp sel = 0 := BitVec.eq_of_toNat_eq ‹_›
    split at h <;> cases h
    rename_i hv
    rw [encode_enc hv, ← hop, hsel, hop]
    exact ⟨.inl ⟨rfl, rfl⟩, rfl⟩
  all_goals cases h
  all_goals
    rename_i hop
    rw [(BitVec.toNat_eq_nat.mp hop).2]
    exact ⟨.inr ⟨by decide, rfl⟩, rfl⟩

/-- The selector bits that R75 compares: all nine with `op` 0, `op` alone otherwise. -/
def selMask (op : BitVec 5) : BitVec 9 := if op = 0 then 0x1FF else 0x1F0

/-- The row that R75 gives an operation. -/
def Instr.row (i : Instr) : OpRow := ⟨i.mnemonic, (encode i).sel, selMask (encode i).op⟩

theorem Instr.row_mem_opRows (i : Instr) : i.row ∈ opRows := by
  cases i <;> simp only [row, encode, mnemonic, Request.op] <;> decide

/-- A request that decodes is fitted by its operation's row. -/
theorem Instr.row_fits_of_decode {r : Request} {i : Instr} (h : decode r = .ok i) : i.row.fits r.sel = true := by
  refine beq_iff_eq.mpr (show r.sel &&& selMask (encode i).op = (encode i).sel from ?_)
  obtain ⟨⟨hop, hsel⟩ | ⟨hop, hsel⟩, -⟩ := encode_of_decode h
  · rw [show (encode i).op = r.op from congrArg selOp hsel, selMask, if_pos hop, hsel]
    exact BitVec.and_allOnes
  · rw [show (encode i).op = r.op from (congrArg selOp hsel).trans (selOp_append _ _), selMask, if_neg hop, hsel]
    exact and_0x1F0_eq r.sel

/-- Every row's own selector decodes, to an operation of that name. -/
theorem decodeSel_selMatch (p : Ports) {row : OpRow} (h : row ∈ opRows) :
    ∃ i, decodeSel row.selMatch p = .ok i ∧ i.mnemonic = row.mnemonic := by
  fin_cases h <;> exact ⟨_, rfl, rfl⟩

theorem mask_of_mem_opRows : ∀ row ∈ opRows,
    row.mask = 0x1FF ∨ row.mask = 0x1F0 ∧ (selOp row.selMatch).toNat ≠ 0 := by
  decide

/-- What a row fits decodes to the operation of that name (R75). -/
theorem decode_of_fits {r : Request} {row : OpRow} (h : row ∈ opRows) (hf : row.fits r.sel = true) :
    ∃ i, decode r = .ok i ∧ i.mnemonic = row.mnemonic := by
  have hsel : r.sel &&& row.mask = row.selMatch := beq_iff_eq.mp hf
  obtain ⟨i, hi, hname⟩ := decodeSel_selMatch r.ports h
  refine ⟨i, ?_, hname⟩
  rw [← hi]
  obtain hm | ⟨hm, hop⟩ := mask_of_mem_opRows row h <;> rw [hm] at hsel
  · exact congrArg (decodeSel · r.ports) (sel_of_mask _ _ hsel)
  · exact decodeSel_congr r.ports (selOp_of_mask _ _ hsel) hop

/-- No two rows bear one mnemonic. -/
theorem nodup_mnemonics : (opRows.map OpRow.mnemonic).Nodup := by
  decide

theorem canonical_selMatch : ∀ row ∈ opRows,
    (⟨row.selMatch, Ports.zero⟩ : Request).wf = true ∧ (⟨row.selMatch, Ports.zero⟩ : Request).varIdle = true := by
  decide

/-- Every row's selector is well formed, with `var` 0 where it is ignored; so is the encoder's, which is the row's. -/
theorem canonical_encode (i : Instr) : (encode i).canonical = true := by
  obtain ⟨hwf, hvar⟩ := canonical_selMatch i.row i.row_mem_opRows
  have hp : (encode i).portsIdle = true := by
    rw [(encode_of_decode (Machine.decode_encode i)).2, beq_self_eq_true]
  exact Bool.and_eq_true_iff.mpr ⟨Bool.and_eq_true_iff.mpr ⟨hwf, hvar⟩, hp⟩

/-- A canonical request is the one that the encoder gives (assumption 14). -/
theorem encode_eq_of_canonical {r : Request} {i : Instr} (h : decode r = .ok i) (hc : r.canonical = true) :
    encode i = r := by
  obtain ⟨hsel, hports⟩ := encode_of_decode h
  simp only [Request.canonical, Request.varIdle, hports, Bool.and_eq_true, Bool.or_eq_true, beq_iff_eq] at hc
  obtain ⟨⟨-, hvar⟩, hp⟩ := hc
  have hs : (encode i).sel = r.sel := by
    obtain ⟨-, hs⟩ | ⟨hop, hs⟩ := hsel
    · exact hs
    · rw [hs, ← hvar.resolve_left hop]
      exact selOp_append_selVar r.sel
  cases r
  cases hs
  cases hp
  rfl

/-- `op` past 0x0B and below 0x10, or past 0x13, names no operation (R81). -/
theorem decodeSel_reservedOp {sel : BitVec 9} (p : Ports)
    (h : (0x0C ≤ (selOp sel).toNat ∧ (selOp sel).toNat ≤ 0x0F) ∨ 0x14 ≤ (selOp sel).toNat) :
    decodeSel sel p = .error (.reservedOp (selOp sel)) := by
  unfold decodeSel
  split
  rotate_right
  · rfl
  all_goals omega

/-- With `op` 0 a `var` past 12 names no operation (R82). -/
theorem decodeSel_reservedVar {sel : BitVec 9} (p : Ports) (hop : (selOp sel).toNat = 0)
    (hvar : 13 ≤ (selVar sel).toNat) : decodeSel sel p = .error (.reservedVar (selVar sel)) := by
  simp only [decodeSel, hop, variantOf_reserved hvar]

end Sys2Proof
end

section
/-! Encoding and decoding are inverse, the operation map is the decoder's, and what names no operation is refused. -/

namespace Sys2Proof.Machine

/-- Settles O1: the encoder gives a canonical request that decodes, and there is no other one. -/
theorem encodeDecodeAreInverse : Obligations.EncodeDecodeAreInverse := by
  refine fun i r => ⟨?_, fun ⟨h, hc⟩ => encode_eq_of_canonical h hc⟩
  rintro rfl
  exact ⟨decode_encode i, canonical_encode i⟩

/-- Settles O2: the operation's own row fits, and any row that fits is the row of the operation decoded. -/
theorem operationMapMatchesDecoder : Obligations.OperationMapMatchesDecoder := by
  refine ⟨rfl, fun r i h => ⟨i.row, i.row_mem_opRows, Instr.row_fits_of_decode h, rfl, fun row' hmem hf => ?_⟩,
    fun _ _ => decode_of_fits⟩
  obtain ⟨i', h', hname⟩ := decode_of_fits hmem hf
  cases h.symm.trans h'
  exact List.inj_on_of_nodup_map nodup_mnemonics hmem i.row_mem_opRows hname.symm

/-- The step on a request that names no operation (R81, R82). -/
theorem step_of_decode_error {s : State} {r : Request} {rest : List HostEvent} {e : Reject}
    (h : s.inbox = .op r :: rest) (hd : decode r = .error e) :
    step s = .next { s with inbox := rest, reply := some ⟨.refused, none⟩ } := by
  obtain ⟨h', -⟩ | ⟨_, h', -⟩ | ⟨_, _, _, h', hd', -⟩ | ⟨_, _, _, h', -, hs⟩ := step_cases s <;> rw [h] at h' <;> cases h'
  · rw [hd] at hd'
    cases hd'
  · exact hs

/-- Settles O3: neither R81's selectors nor R82's decode. -/
theorem reservedSelectorsAreRefused : Obligations.ReservedSelectorsAreRefused := by
  rintro s r rest h (hr | ⟨hr, -⟩ | ⟨hop, hvar⟩)
  · exact step_of_decode_error h (decodeSel_reservedOp r.ports (.inl hr))
  · exact step_of_decode_error h (decodeSel_reservedOp r.ports (.inr hr))
  · exact step_of_decode_error h (decodeSel_reservedVar r.ports hop hvar)

/-- Settles O58: the tables of R78 and R79, phase by phase and status by status. -/
theorem phaseAndStatusCodes : Obligations.PhaseAndStatusCodes := by
  refine ⟨⟨rfl, rfl, rfl, rfl, rfl⟩, fun ph => ?_, ⟨rfl, rfl, rfl, rfl, rfl⟩, rfl, rfl, rfl, rfl⟩
  cases ph <;> decide

end Sys2Proof.Machine
end

section
/-! Frame construction, field access and the checksum: what `ENC`, `PACK`, `UNPACK` and `VALIDATE` answer, and which
frames are valid. -/

namespace Sys2Proof.Machine

/-! ### What the operations answer -/

/-- Two next states that differ from one state in the reply alone are equal exactly when the replies are. -/
theorem next_reply_inj {s : State} {c c' : Option Completion} :
    (Host.Outcome.next { s with reply := c } : Answer) = .next { s with reply := c' } ↔ c = c' := by
  simp

/-- `ENC(v, arg)` of every variant (R90). -/
theorem exec_enc (v : Variant) (arg : Payload) (s : State) :
    exec (.enc v arg) s = .next { s with reply := some ⟨.ok, some (.frame (encodeCommand Config.fcps v arg))⟩ } := by
  cases v <;> rfl

theorem exec_pack (h a b c : Byte) (s : State) :
    exec (.pack h a b c) s = .next { s with reply := some ⟨.ok, some (.frame (buildFrame Config.fcps.ck h a b c))⟩ } :=
  rfl

theorem exec_unpack (f : Frame) (s : State) :
    exec (.unpack f) s =
      .next { s with reply := some ⟨.ok, some (.fields f.header f.datum1 f.datum2 f.datum3 f.checksum)⟩ } := rfl

theorem exec_cksum (h a b c : Byte) (s : State) :
    exec (.cksum h a b c) s = .next { s with reply := some ⟨.ok, some (.byte (Config.fcps.ck h a b c))⟩ } := rfl

theorem exec_validate_valid {f : Frame} (h : ValidFrame Config.fcps.ck f) (s : State) :
    exec (.validate f) s = .next { s with reply := some ⟨.ok, none⟩ } := by
  rw [exec, execValidate_eq, if_pos h]

theorem exec_validate_invalid {f : Frame} (h : ¬ValidFrame Config.fcps.ck f) (s : State) :
    exec (.validate f) s = .next { s with reply := some ⟨.checksumMismatch, none⟩ } := by
  rw [exec, execValidate_eq, if_neg h]

/-- `VALIDATE` answers OK exactly to the valid frames (R108). -/
theorem exec_validate_eq_ok_iff {f : Frame} {s : State} :
    exec (.validate f) s = .next { s with reply := some ⟨.ok, none⟩ } ↔ ValidFrame Config.fcps.ck f := by
  refine ⟨fun h => ?_, fun h => exec_validate_valid h s⟩
  by_contra hf
  cases next_reply_inj.mp ((exec_validate_invalid hf s).symm.trans h)

/-- A row of an `ENC.*` operation: its selector, all nine bits, and the frame delivered (R90 to R103). -/
theorem selects_enc_and_exec_enc {m : BitVec 9} {v : Variant} (h : ∀ p, decodeSel m p = .ok (.enc v p.arg))
    (arg : Payload) (s : State) :
    Selects m 0x1FF (fun p => .enc v p.arg) ∧
    exec (.enc v arg) s = .next { s with reply := some ⟨.ok, some (.frame (encodeCommand Config.fcps v arg))⟩ } :=
  ⟨selects_of_sel h, exec_enc v arg s⟩

/-! ### Which frames are valid -/

theorem buildFrame_eq_iff {ck : Checksum} {f : Frame} :
    buildFrame ck f.header f.datum1 f.datum2 f.datum3 = f ↔ ValidFrame ck f := by
  obtain ⟨h, a, b, c, k⟩ := f
  simp [buildFrame, ValidFrame]

theorem checkFrame_eq_ok_iff {ck : Checksum} {f : Frame} : checkFrame ck f = .ok f ↔ ValidFrame ck f := by
  by_cases h : ValidFrame ck f
  · exact iff_of_true (checkFrame_valid h) h
  · exact iff_of_false (by simp [checkFrame_invalid h]) h

/-- A valid frame is its first four bytes: the checksum is theirs. -/
def validFrameEquiv (ck : Checksum) : { f : Frame // ValidFrame ck f } ≃ Byte × Byte × Byte × Byte where
  toFun f := (f.1.header, f.1.datum1, f.1.datum2, f.1.datum3)
  invFun p := ⟨buildFrame ck p.1 p.2.1 p.2.2.1 p.2.2.2, buildFrame_valid ck _ _ _ _⟩
  left_inv f := Subtype.ext (buildFrame_eq_iff.mpr f.2)
  right_inv _ := rfl

/-- There are as many valid frames as choices of the first four bytes, whatever `CK` is (R108). -/
theorem card_validFrame (ck : Checksum) : Nat.card { f : Frame // ValidFrame ck f } = 2 ^ 32 := by
  have hbyte : Nat.card Byte = 2 ^ 8 := (Nat.card_congr BitVec.equivFin.toEquiv).trans (Nat.card_fin _)
  rw [Nat.card_congr (validFrameEquiv ck), Nat.card_prod, Nat.card_prod, Nat.card_prod, hbyte]
  norm_num

/-! ### Mutations -/

theorem MutatesOneByte.checksum_eq {f f' : Frame} (h : MutatesOneByte f f') : f'.checksum = f.checksum := by
  obtain ⟨-, h⟩ | ⟨-, h⟩ | ⟨-, h⟩ | ⟨-, h⟩ := h <;> rw [h]

/-- A sensitive checksum sees a mutation of one of the first four bytes (R111). -/
theorem CkSensitive.ne_of_mutatesOneByte {ck : Checksum} (hck : CkSensitive ck) {f f' : Frame}
    (h : MutatesOneByte f f') :
    ck f'.header f'.datum1 f'.datum2 f'.datum3 ≠ ck f.header f.datum1 f.datum2 f.datum3 := by
  refine hck _ _ _ _ _ _ _ _ ?_
  obtain ⟨hne, h⟩ | ⟨hne, h⟩ | ⟨hne, h⟩ | ⟨hne, h⟩ := h <;> rw [h]
  · exact .inl ⟨hne, rfl, rfl, rfl⟩
  · exact .inr (.inl ⟨rfl, hne, rfl, rfl⟩)
  · exact .inr (.inr (.inl ⟨rfl, rfl, hne, rfl⟩))
  · exact .inr (.inr (.inr ⟨rfl, rfl, rfl, hne⟩))

/-- Four bytes joined by an operation that cancels on both sides make a sensitive checksum. -/
theorem ckSensitive_of_cancel (op : Byte → Byte → Byte) (hl : ∀ x y z, op x y = op x z → y = z)
    (hr : ∀ x y z, op x z = op y z → x = y) : CkSensitive fun h a b c => op (op (op h a) b) c := by
  rintro h a b c h' a' b' c'
    (⟨hne, rfl, rfl, rfl⟩ | ⟨rfl, hne, rfl, rfl⟩ | ⟨rfl, rfl, hne, rfl⟩ | ⟨rfl, rfl, rfl, hne⟩) heq
  · exact hne (hr _ _ _ (hr _ _ _ (hr _ _ _ heq)))
  · exact hne (hl _ _ _ (hr _ _ _ (hr _ _ _ heq)))
  · exact hne (hl _ _ _ (hr _ _ _ heq))
  · exact hne (hl _ _ _ heq)

/-- R111: `CK_SENSITIVE` rejects a mutation, since the trailing byte is still the old checksum. -/
theorem checkFrame_of_mutatesOneByte {ck : Checksum} (hck : CkSensitive ck) {f f' : Frame} (hf : ValidFrame ck f)
    (h : MutatesOneByte f f') : checkFrame ck f' = .error .checksumMismatch :=
  checkFrame_invalid fun hf' => hck.ne_of_mutatesOneByte h ((hf'.trans h.checksum_eq).trans hf.symm)

end Sys2Proof.Machine
end

section
/-! The obligations on frame construction and the checksum. -/

namespace Sys2Proof.Machine

/-- Settles O12: both operations deliver what `buildFrame` builds, which is valid. -/
theorem constructedFramesAreValid : Obligations.ConstructedFramesAreValid :=
  ⟨fun h a b c s u => ⟨exec_pack h a b c s, exec_validate_valid (buildFrame_valid _ h a b c) u⟩,
    fun v arg s u => ⟨exec_enc v arg s, exec_validate_valid (buildFrame_valid _ _ _ _ _) u⟩⟩

/-- Settles O16: the one valid trailing byte is the checksum of the four leading ones, which count the valid frames. -/
theorem validateComparesTheChecksum : Obligations.ValidateComparesTheChecksum :=
  ⟨selects_of_op (by decide) fun _ => rfl,
    fun _ s => ⟨fun h => exec_validate_valid h s, fun h => exec_validate_invalid h s⟩,
    fun h a b c => ⟨Config.fcps.ck h a b c, fun _ _ => exec_validate_eq_ok_iff.trans eq_comm⟩,
    card_validFrame⟩

/-- Settles O17: the fields that `UNPACK` gives determine the frame, and `PACK` gives it back if its checksum is
theirs. -/
theorem unpackInvertsPack : Obligations.UnpackInvertsPack := by
  refine ⟨fun h a b c s u => ⟨buildFrame Config.fcps.ck h a b c, exec_pack h a b c s, exec_unpack _ u⟩,
    fun f h a b c k s t u hfields => ?_⟩
  cases next_reply_inj.mp ((exec_unpack f s).symm.trans hfields)
  calc exec (.pack f.header f.datum1 f.datum2 f.datum3) t = .next { t with reply := some ⟨.ok, some (.frame f)⟩ }
    _ ↔ buildFrame Config.fcps.ck f.header f.datum1 f.datum2 f.datum3 = f := by simp [exec_pack]
    _ ↔ ValidFrame Config.fcps.ck f := buildFrame_eq_iff
    _ ↔ exec (.validate f) u = .next { u with reply := some ⟨.ok, none⟩ } := exec_validate_eq_ok_iff.symm

/-- Settles O18: a mutation keeps the trailing byte and, under `CK_SENSITIVE`, changes the checksum computed; a constant
is not changed by it; XOR and addition of bytes cancel. -/
theorem checksumRejection : Obligations.ChecksumRejection := by
  refine ⟨fun ck f f' hck hf hm => checkFrame_of_mutatesOneByte hck (checkFrame_eq_ok_iff.mp hf) hm,
    fun k f f' hf hm => ?_, ckSensitive_of_cancel (· ^^^ ·) (by simp) (by simp),
    ckSensitive_of_cancel (· + ·) (by simp) (by simp), fun ck f k hf hk => ?_, fun f s => ?_⟩
  · have hk : k = f.checksum := checkFrame_eq_ok_iff.mp hf
    exact checkFrame_valid (hk.trans hm.checksum_eq.symm)
  · have hv : ValidFrame ck f := checkFrame_eq_ok_iff.mp hf
    exact checkFrame_invalid fun hv' => hk (hv'.symm.trans hv)
  · by_cases h : ValidFrame Config.fcps.ck f
    · rw [checkFrame_valid h]
      exact exec_validate_valid h s
    · rw [checkFrame_invalid h]
      exact exec_validate_invalid h s

/-- Settles O10: one row for each variant. -/
theorem encFirstSevenDeliverTheirFrames : Obligations.EncFirstSevenDeliverTheirFrames := fun arg s =>
  ⟨selects_enc_and_exec_enc (v := .link) (fun _ => rfl) arg s,
    selects_enc_and_exec_enc (v := .rtc) (fun _ => rfl) arg s,
    selects_enc_and_exec_enc (v := .caset) (fun _ => rfl) arg s,
    selects_enc_and_exec_enc (v := .boardt) (fun _ => rfl) arg s,
    selects_enc_and_exec_enc (v := .dimon) (fun _ => rfl) arg s,
    selects_enc_and_exec_enc (v := .serno) (fun _ => rfl) arg s,
    selects_enc_and_exec_enc (v := .status) (fun _ => rfl) arg s⟩

/-- Settles O11: one row for each variant. -/
theorem encLastSixDeliverTheirFrames : Obligations.EncLastSixDeliverTheirFrames := fun arg s =>
  ⟨selects_enc_and_exec_enc (v := .hwsw) (fun _ => rfl) arg s,
    selects_enc_and_exec_enc (v := .cfgchk) (fun _ => rfl) arg s,
    selects_enc_and_exec_enc (v := .trigsrc) (fun _ => rfl) arg s,
    selects_enc_and_exec_enc (v := .setilk) (fun _ => rfl) arg s,
    selects_enc_and_exec_enc (v := .seten) (fun _ => rfl) arg s,
    selects_enc_and_exec_enc (v := .setprr) (fun _ => rfl) arg s⟩

/-- Settles O13: the row of R75 by its `op`, the frame by `buildFrame`. -/
theorem packBuildsTheFrame : Obligations.PackBuildsTheFrame :=
  ⟨selects_of_op (by decide) fun _ => rfl,
    fun h d1 d2 d3 s => ⟨exec_pack h d1 d2 d3 s, buildFrame_valid _ h d1 d2 d3⟩⟩

/-- Settles O14: the row of R75 by its `op`; no check stands before the fields. -/
theorem unpackGivesTheFields : Obligations.UnpackGivesTheFields :=
  ⟨selects_of_op (by decide) fun _ => rfl, exec_unpack⟩

/-- Settles O15: the row of R75 by its `op`, the value by `CK` on the operands in their order. -/
theorem cksumGivesTheChecksum : Obligations.CksumGivesTheChecksum :=
  ⟨selects_of_op (by decide) fun _ => rfl, exec_cksum⟩

end Sys2Proof.Machine
end

section
/-! The byte and integer conversions: what `F2B`, `B2F`, `DECB`, `F2I` and `I2F` answer, and that the forms of a frame
are each other's inverses. -/

namespace Sys2Proof.Machine

/-! ### The forms of a frame -/

@[simp] theorem bytesToFrame_frameToBytes (f : Frame) : bytesToFrame (frameToBytes f) = f := rfl

@[simp] theorem frameToBytes_bytesToFrame (b : Bytes5) : frameToBytes (bytesToFrame b) = b := by
  ext i hi
  match i, hi with
  | 0, _ => rfl
  | 1, _ => rfl
  | 2, _ => rfl
  | 3, _ => rfl
  | 4, _ => rfl

theorem frameToBytes_toList (f : Frame) :
    (frameToBytes f).toList = [f.header, f.datum1, f.datum2, f.datum3, f.checksum] := rfl

/-- A sequence of length five is the bytes of a frame (R67). -/
theorem exists_frame_of_length_five {bs : ByteSeq} (h : bs.length = 5) : ∃ f, bs = (frameToBytes f).toList := by
  obtain ⟨header, a, b, c, k, rfl⟩ := exists_of_length_five h
  exact ⟨⟨header, a, b, c, k⟩, rfl⟩

/-- The weighted sum of R128: the byte appended last is below the weight of the ones before it. -/
theorem frameToInt_toNat (f : Frame) :
    (frameToInt f).toNat = f.header.toNat * 2 ^ 32 + f.datum1.toNat * 2 ^ 24 + f.datum2.toNat * 2 ^ 16 +
      f.datum3.toNat * 2 ^ 8 + f.checksum.toNat := by
  simp only [frameToInt, BitVec.toNat_append, ← Nat.shiftLeft_add_eq_or_of_lt (BitVec.isLt _)]
  omega

/-- The five slices of an integer, each with its weight, sum up to it (R130). -/
theorem frameToInt_intToFrame (n : Int40) : frameToInt (intToFrame n) = n := by
  apply BitVec.eq_of_toNat_eq
  simp only [frameToInt_toNat, intToFrame, BitVec.extractLsb'_toNat]
  omega

/-! ### What the operations answer -/

theorem exec_f2b (f : Frame) (s : State) :
    exec (.f2b f) s = .next { s with reply := some ⟨.ok, some (.bytes (frameToBytes f))⟩ } := rfl

theorem exec_b2f (b : Bytes5) (s : State) :
    exec (.b2f b) s = .next { s with reply := some ⟨.ok, some (.frame (bytesToFrame b))⟩ } := rfl

theorem exec_f2i (f : Frame) (s : State) :
    exec (.f2i f) s = .next { s with reply := some ⟨.ok, some (.int (frameToInt f))⟩ } := rfl

theorem exec_i2f (n : Int40) (s : State) :
    exec (.i2f n) s = .next { s with reply := some ⟨.ok, some (.frame (intToFrame n))⟩ } := rfl

/-- `DECB` answers by its checked decode (R126). -/
theorem exec_decb (bs : ByteSeq) (s : State) :
    exec (.decb bs) s = .next (answer ((decodeBytes Config.fcps.ck bs).map fun f => some (.frame f)) s) := rfl

theorem exec_decb_wrongLength {bs : ByteSeq} (h : bs.length ≠ 5) (s : State) :
    exec (.decb bs) s = .next { s with reply := some ⟨.wrongLength, none⟩ } := by
  rw [exec_decb, decodeBytes_wrongLength h]
  rfl

theorem exec_decb_valid {f : Frame} (h : ValidFrame Config.fcps.ck f) (s : State) :
    exec (.decb (frameToBytes f).toList) s = .next { s with reply := some ⟨.ok, some (.frame f)⟩ } := by
  rw [exec_decb, frameToBytes_toList, decodeBytes_five, checkFrame_valid h]
  rfl

theorem exec_decb_invalid {f : Frame} (h : ¬ValidFrame Config.fcps.ck f) (s : State) :
    exec (.decb (frameToBytes f).toList) s = .next { s with reply := some ⟨.checksumMismatch, none⟩ } := by
  rw [exec_decb, frameToBytes_toList, decodeBytes_five, checkFrame_invalid h]
  rfl

/-- What `DECB` accepts is the bytes of the frame it delivers (R127): of its three answers only one delivers a frame. -/
theorem eq_frameToBytes_of_exec_decb {bs : ByteSeq} {f : Frame} {s : State}
    (h : exec (.decb bs) s = .next { s with reply := some ⟨.ok, some (.frame f)⟩ }) :
    bs = (frameToBytes f).toList := by
  by_cases hl : bs.length = 5
  · obtain ⟨g, rfl⟩ := exists_frame_of_length_five hl
    by_cases hg : ValidFrame Config.fcps.ck g
    · cases next_reply_inj.mp ((exec_decb_valid hg s).symm.trans h)
      rfl
    · cases next_reply_inj.mp ((exec_decb_invalid hg s).symm.trans h)
  · cases next_reply_inj.mp ((exec_decb_wrongLength hl s).symm.trans h)

/-! ### The statements -/

/-- Settles O20: the rows of R75 by their `op`; no check stands before the bytes or the frame. -/
theorem frameToBytesAndBack : Obligations.FrameToBytesAndBack :=
  ⟨selects_of_op (by decide) fun _ => rfl, selects_of_op (by decide) fun _ => rfl, exec_f2b, exec_b2f⟩

/-- Settles O21: the byte form and the field form are each other's inverses, and neither operation looks at `CK`. -/
theorem byteRoundTrip : Obligations.ByteRoundTrip := by
  refine ⟨fun f s u => ⟨frameToBytes f, exec_f2b f s, ?_⟩, fun b s u => ⟨bytesToFrame b, exec_b2f b s, ?_⟩⟩
  · rw [exec_b2f, bytesToFrame_frameToBytes]
  · rw [exec_f2b, frameToBytes_bytesToFrame]

/-- Settles O22: five bytes are those of the frame they spell, which is valid or not. -/
theorem decbChecksLengthThenChecksum : Obligations.DecbChecksLengthThenChecksum :=
  ⟨selects_of_op (by decide) fun _ => rfl, fun _ s hl => exec_decb_wrongLength hl s,
    fun h a b c k s hk => exec_decb_invalid (f := ⟨h, a, b, c, k⟩) hk s,
    fun h a b c k s hk => exec_decb_valid (f := ⟨h, a, b, c, k⟩) hk s⟩

/-- Settles O23: `DECB` of a frame's bytes checks the frame, and what it accepts is such bytes. -/
theorem decbInvertsFrameToBytes : Obligations.DecbInvertsFrameToBytes := by
  refine ⟨fun f s u => ⟨frameToBytes f, exec_f2b f s, fun hf => exec_decb_valid hf u, fun hf => exec_decb_invalid hf u⟩,
    fun bs f s u h => ?_⟩
  have hbs : bs = (frameToBytes f).toList := eq_frameToBytes_of_exec_decb h
  exact ⟨hbs ▸ Vector.length_toList, frameToBytes f, exec_f2b f u, hbs.symm⟩

/-- Settles O24: the rows of R75 by their `op`, the weighted sum by `frameToInt_toNat`. -/
theorem frameToIntegerAndBack : Obligations.FrameToIntegerAndBack :=
  ⟨selects_of_op (by decide) fun _ => rfl, selects_of_op (by decide) fun _ => rfl,
    fun f s => ⟨frameToInt f, exec_f2i f s, rfl, frameToInt_toNat f⟩, exec_i2f⟩

/-- Settles O25: the integer form and the field form are each other's inverses, so the bytes of the frame cut from an
integer are that integer's slices. -/
theorem integerRoundTrip : Obligations.IntegerRoundTrip := by
  refine ⟨fun f s u => ⟨frameToInt f, exec_f2i f s, ?_⟩, fun n s u v =>
    ⟨intToFrame n, frameToBytes (intToFrame n), exec_i2f n s, ?_, exec_f2b _ v, fun i hi => ?_⟩⟩
  · rw [exec_i2f, intToFrame_frameToInt]
  · rw [exec_f2i, frameToInt_intToFrame]
  · rw [frameToBytes_getElem, frameToInt_intToFrame]

end Sys2Proof.Machine
end

section
/-! The text conversions: the positional value of a digit list, what `F2H` and `H2F` answer. -/

namespace Sys2Proof.Machine

/-! ### Digit lists and the texts they come from -/

/-- The model's positional value is the library's, which counts digits from the least significant. -/
theorem digitsValue_eq_ofDigits (ds : List Nat) : digitsValue ds = Nat.ofDigits 16 ds.reverse := by
  simp [digitsValue, Nat.ofDigits_eq_foldr, Nat.add_comm]

/-- The leading digit weighs 16 to the number of digits behind it. -/
@[simp] theorem digitsValue_cons (d : Nat) (ds : List Nat) :
    digitsValue (d :: ds) = d * 16 ^ ds.length + digitsValue ds := by
  simp only [digitsValue_eq_ofDigits, List.reverse_cons, Nat.ofDigits_append, Nat.ofDigits_singleton,
    List.length_reverse]
  ring

theorem digitsValue_lt {ds : List Nat} (h : ∀ d ∈ ds, d < 16) : digitsValue ds < 16 ^ ds.length := by
  rw [digitsValue_eq_ofDigits, ← List.length_reverse]
  exact Nat.ofDigits_lt_base_pow_length (by decide) fun d hd => h d (List.mem_reverse.mp hd)

/-- The sum of R146, for any number of digits. -/
theorem digitsValue_eq_sum (ds : List Nat) :
    digitsValue ds = ((List.range ds.length).map fun i => ds[i]?.getD 0 * 16 ^ (ds.length - 1 - i)).sum := by
  induction ds with
  | nil => rfl
  | cons d ds ih =>
    simp [List.range_succ_eq_map, ih, Function.comp_def, Nat.sub_sub, Nat.add_comm 1]

/-- A text has the digit values `ds` exactly when they are its characters' values, one for one. -/
theorem hexDigits_eq_some_iff {t : Text} {ds : List Nat} : hexDigits t = some ds ↔ t.map hexVal = ds.map some := by
  induction t generalizing ds with
  | nil => cases ds <;> simp [hexDigits_nil]
  | cons ch t ih => cases ds <;> simp [hexDigits_cons, Option.bind_eq_some_iff, ← ih]

section

variable {t : Text} {ds : List Nat}

theorem length_of_hexDigits (h : hexDigits t = some ds) : ds.length = t.length := by
  simpa using (congrArg List.length (hexDigits_eq_some_iff.mp h)).symm

/-- Digit `i` is the value of character `i`. -/
theorem hexDigits_getElem? (h : hexDigits t = some ds) (i : Nat) : ds[i]? = t[i]?.bind hexVal := by
  have hi : t[i]?.map hexVal = ds[i]?.map some := by
    simpa using congrArg (·[i]?) (hexDigits_eq_some_iff.mp h)
  simpa [Option.bind_map, Function.comp_def] using congrArg (Option.bind · id) hi.symm

theorem lt_of_mem_hexDigits (h : hexDigits t = some ds) {d : Nat} (hd : d ∈ ds) : d < 16 := by
  have hm : some d ∈ t.map hexVal := hexDigits_eq_some_iff.mp h ▸ List.mem_map_of_mem hd
  obtain ⟨ch, -, hv⟩ := List.mem_map.mp hm
  exact hexVal_lt hv

/-- The value of a text is the sum of its characters' values by their place (R146). -/
theorem digitsValue_of_hexDigits (h : hexDigits t = some ds) :
    digitsValue ds =
      ((List.range t.length).map fun i => (t[i]?.bind hexVal).getD 0 * 16 ^ (t.length - 1 - i)).sum := by
  simp only [digitsValue_eq_sum, hexDigits_getElem? h, length_of_hexDigits h]

end

/-! ### What the operations answer -/

@[simp] theorem length_frameToHex (f : Frame) : (frameToHex f).length = 10 := rfl

theorem exec_f2h (f : Frame) (s : State) :
    exec (.f2h f) s = .next { s with reply := some ⟨.ok, some (.text (frameToHex f))⟩ } := rfl

/-- `H2F` answers by its checked decode (R146). -/
theorem exec_h2f (t : Text) (s : State) :
    exec (.h2f t) s = .next (answer ((decodeHex Config.fcps.ck t).map fun f => some (.frame f)) s) := rfl

/-- Both causes of `H2F`'s `WRONG_LENGTH` (R146). -/
theorem exec_h2f_wrongLength {t : Text} (h : t.length ≠ 10 ∨ ∃ ch ∈ t, hexVal ch = none) (s : State) :
    exec (.h2f t) s = .next { s with reply := some ⟨.wrongLength, none⟩ } := by
  have hd : decodeHex Config.fcps.ck t = .error .wrongLength :=
    h.elim decodeHex_wrongLength fun h => decodeHex_badDigit (hexDigits_eq_none.mpr h)
  rw [exec_h2f, hd]
  rfl

section

variable {t : Text} {ds : List Nat}

theorem exec_h2f_valid (hl : t.length = 10) (hd : hexDigits t = some ds)
    (h : ValidFrame Config.fcps.ck (intToFrame (BitVec.ofNat 40 (digitsValue ds)))) (s : State) :
    exec (.h2f t) s = .next { s with
      reply := some ⟨.ok, some (.frame (intToFrame (BitVec.ofNat 40 (digitsValue ds))))⟩ } := by
  rw [exec_h2f, decodeHex_digits hl hd, checkFrame_valid h]
  rfl

theorem exec_h2f_invalid (hl : t.length = 10) (hd : hexDigits t = some ds)
    (h : ¬ValidFrame Config.fcps.ck (intToFrame (BitVec.ofNat 40 (digitsValue ds)))) (s : State) :
    exec (.h2f t) s = .next { s with reply := some ⟨.checksumMismatch, none⟩ } := by
  rw [exec_h2f, decodeHex_digits hl hd, checkFrame_invalid h]
  rfl

end

/-! ### The statements -/

/-- Settles O30: a text without a bad digit has digit values; their positional value is the sum of R146, below
`16^10`, and the frame cut from it is valid or not. -/
theorem hexToFrameChecksThenDecodes : Obligations.HexToFrameChecksThenDecodes := by
  refine ⟨selects_of_op (by decide) fun _ => rfl, fun _ s h => exec_h2f_wrongLength h s, fun t s hl hdig => ?_⟩
  obtain ⟨ds, hd⟩ : ∃ ds, hexDigits t = some ds :=
    Option.ne_none_iff_exists'.mp fun h => (hexDigits_eq_none.mp h).elim fun ch ⟨hm, hv⟩ => hdig ch hm hv
  have hsum := digitsValue_of_hexDigits hd
  have hlt := digitsValue_lt fun _ => lt_of_mem_hexDigits hd
  rw [length_of_hexDigits hd, hl] at hlt
  rw [hl] at hsum
  intro n
  rw [show n = digitsValue ds from hsum.symm]
  exact ⟨hlt, fun h => exec_h2f_invalid hl hd h s, fun h => exec_h2f_valid hl hd h s⟩

/-- Settles O28: the row of R75 by its `op`; no check stands before the text, whose digits are the slices of the
integer form. -/
theorem frameToHexSpellsTheInteger : Obligations.FrameToHexSpellsTheInteger :=
  ⟨selects_of_op (by decide) fun _ => rfl,
    fun f s => ⟨frameToHex f, exec_f2h f s, length_frameToHex f, fun _ => frameToHex_getElem? f⟩⟩

end Sys2Proof.Machine
end

section
/-! The phase a time is in: its intervals and its order (R164, R165). -/

namespace Sys2Proof.Machine

/-- The two boundaries of `classify` written as R164 writes them. -/
theorem classifyTime_eq (d : Durations) (t : Seconds) :
    classifyTime d t =
      if t.toNat < d.wsec.toNat then .warmup
      else if d.wsec.toNat ≤ t.toNat ∧ t.toNat < d.wsec.toNat + d.lsec.toNat then .lase
      else .cool := by
  obtain ⟨e, h⟩ | ⟨e, h⟩ | ⟨e, h⟩ := classifyTime_cases d t <;> rw [e] <;> unfold Durations.wEnd at h
  · rw [if_pos h]
  · unfold Durations.lEnd at h
    rw [if_neg (by omega), if_pos h]
  · unfold Durations.lEnd at h
    rw [if_neg (by omega), if_neg (by omega)]

theorem classifyTime_eq_warmup_iff {d : Durations} {t : Seconds} : classifyTime d t = .warmup ↔ t.toNat < d.wEnd :=
  (boundariesAreExactSums.2.1 d t).1

theorem classifyTime_eq_lase_iff {d : Durations} {t : Seconds} :
    classifyTime d t = .lase ↔ d.wEnd ≤ t.toNat ∧ t.toNat < d.lEnd :=
  (boundariesAreExactSums.2.1 d t).2.1

theorem classifyTime_eq_cool_iff {d : Durations} {t : Seconds} : classifyTime d t = .cool ↔ d.lEnd ≤ t.toNat :=
  (boundariesAreExactSums.2.1 d t).2.2

/-- No time is before WARMUP (R165 a). -/
theorem one_le_phaseRank_classifyTime (d : Durations) (t : Seconds) : 1 ≤ phaseRank (classifyTime d t) := by
  obtain ⟨e, -⟩ | ⟨e, -⟩ | ⟨e, -⟩ := classifyTime_cases d t <;> rw [e] <;> decide

/-- From `W_END` on no time is before LASE. -/
theorem two_le_phaseRank_classifyTime {d : Durations} {t : Seconds} (h : d.wEnd ≤ t.toNat) :
    2 ≤ phaseRank (classifyTime d t) := by
  obtain ⟨-, ht⟩ | ⟨e, -⟩ | ⟨e, -⟩ := classifyTime_cases d t
  · omega
  · rw [e]; decide
  · rw [e]; decide

/-- A later time is in no earlier phase (R165 b). -/
theorem phaseRank_classifyTime_mono (d : Durations) {t₁ t₂ : Seconds} (h : t₁.toNat ≤ t₂.toNat) :
    phaseRank (classifyTime d t₁) ≤ phaseRank (classifyTime d t₂) := by
  obtain ⟨e, -⟩ | ⟨e, hw, -⟩ | ⟨e, -, hl⟩ := classifyTime_cases d t₁
  · rw [e]; exact one_le_phaseRank_classifyTime d t₂
  · rw [e]; exact two_le_phaseRank_classifyTime (hw.trans h)
  · rw [e, classifyTime_eq_cool_iff.mpr (hl.trans h)]

/-- Settles O35: (a), (c), (d), (e) and (f) by the interval of each phase, (b) by `phaseRank_classifyTime_mono`;
`classify` does not read `CSEC` (g). -/
theorem classifyProperties : Obligations.ClassifyProperties := by
  refine ⟨fun d t => ?_, fun d t₁ t₂ h => phaseRank_classifyTime_mono d h, fun d t => ⟨fun hw hl => ?_, fun hl => ?_⟩,
    fun d t hw h => ?_, fun d t hl h => ?_, fun d t hc => ?_, fun _ _ _ => rfl⟩
  · exact (classifyTime_cases d t).imp And.left (Or.imp And.left And.left)
  · exact classifyTime_eq_lase_iff.mpr ⟨hw.ge, by simp only [Durations.lEnd]; omega⟩
  · exact classifyTime_eq_cool_iff.mpr hl.ge
  · have ht := classifyTime_eq_warmup_iff.mp h
    simp [Durations.wEnd, hw] at ht
  · obtain ⟨hge, hlt⟩ := classifyTime_eq_lase_iff.mp h
    simp only [Durations.wEnd, Durations.lEnd, hl, BitVec.ofNat_eq_ofNat, BitVec.toNat_ofNat, Nat.zero_mod] at hge hlt
    omega
  · exact classifyTime_eq_cool_iff.mpr ((Nat.le_add_right _ _).trans hc)

end Sys2Proof.Machine
end

section
/-! What the four operations of the sequencer answer (R162 to R175), and QUIT held until reset (R171, R176). -/

namespace Sys2Proof.Machine

theorem durations_eq_none_of_dv {s : State} (h : s.dv = false) : s.durations = none := by
  simpa [State.dv] using h

/-- An accepted `TICK` of a block with any parameters (R169). -/
theorem tick_some {s : State} {d : Durations} (hd : s.durations = some d) (hq : s.phase ≠ .quit) (cfg : Config)
    (t : Seconds) :
    tick cfg t s = { changePhase cfg (classifyTime d t) s with
      reply := some ⟨.ok, some (.phase (classifyTime d t))⟩ } := by
  obtain ⟨h | h, -⟩ | ⟨d', hd', -, e⟩ := tick_cases cfg t s
  · cases hd.symm.trans h
  · exact absurd h hq
  · cases hd.symm.trans hd'
    exact e

/-- A `TICK` that finds WARMUP and a time in the LASE interval starts the laser (R172). -/
theorem exec_tick_starts {s : State} {d : Durations} {t : Seconds} (hd : s.durations = some d) (hp : s.phase = .warmup)
    (hc : classifyTime d t = .lase) :
    exec (.tick t) s =
      .next { emitAll (startLaser Config.fcps) s with phase := .lase, reply := some ⟨.ok, some (.phase .lase)⟩ } := by
  have e := execTick_some hd (by simp [hp]) t
  rwa [hc, changePhase_eq, hp] at e

/-- A `TICK` whose phase is earlier than the stored one is none of the table's two changes that emit (R174, R179). -/
theorem exec_tick_backward {s : State} {d : Durations} {t : Seconds} (hd : s.durations = some d) (hq : s.phase ≠ .quit)
    (hlt : phaseRank (classifyTime d t) < phaseRank s.phase) :
    exec (.tick t) s =
      .next { s with phase := classifyTime d t, reply := some ⟨.ok, some (.phase (classifyTime d t))⟩ } := by
  refine (execTick_some hd hq t).trans ?_
  obtain ⟨h, -⟩ | ⟨hp, h, -⟩ | ⟨hp, h, -⟩ | ⟨-, -, -, e⟩ := changePhase_cases Config.fcps (classifyTime d t) s
  · exact absurd hlt (by rw [h]; exact lt_irrefl _)
  · exact absurd hlt (by rw [hp, h]; decide)
  · exact absurd hlt (by rw [hp, h]; decide)
  · rw [e]

/-- In QUIT the operations but `QUIT` change the reply alone (R171). -/
theorem exec_of_phase_quit {i : Instr} {s : State} (hp : s.phase = .quit) (hi : i ≠ .quit) :
    ∃ c, exec i s = .next { s with reply := some c } := by
  obtain h | ⟨_, _, _, -, hw, -⟩ | ⟨_, _, -, -, hq, -⟩ | ⟨h, -⟩ := exec_cases i s
  · exact h
  · cases hp.symm.trans hw
  · exact absurd hp hq
  · exact absurd h hi

/-- An operation leaves what the host has issued as it is (R58). -/
theorem exec_inbox {i : Instr} {s t : State} (ht : exec i s = .next t) : t.inbox = s.inbox := by
  have h : t = t.issue s.inbox := Host.Outcome.next.inj (ht.symm.trans (exec_issue ht s.inbox))
  rw [h, issue_inbox]

/-- A step takes one event, if there is one, and issues none. -/
theorem step_inbox {s t : State} (ht : step s = .next t) : t.inbox = s.inbox.tail := by
  obtain ⟨h, e⟩ | ⟨rest, h, e⟩ | ⟨r, rest, i, h, -, e⟩ | ⟨r, rest, er, h, -, e⟩ := step_cases s <;> rw [e] at ht
  · cases ht; rw [h]; rfl
  · cases ht; rw [h]; rfl
  · rw [exec_inbox ht, h]; rfl
  · cases ht; rw [h]; rfl

theorem reset_not_mem_inbox_of_step {s t : State} (hr : .reset ∉ s.inbox) (ht : step s = .next t) : .reset ∉ t.inbox :=
  fun hm => hr (List.mem_of_mem_tail (step_inbox ht ▸ hm))

/-- `SAFE` in QUIT, with no reset issued. -/
def ShutDown (s : State) : Prop := .reset ∉ s.inbox ∧ Safe s ∧ s.phase = .quit

theorem exec_quit_safe {s t : State} (ht : exec .quit s = .next t) : Safe t ∧ t.phase = .quit := by
  cases (execQuit_eq s).symm.trans ht
  exact ⟨⟨rfl, rfl⟩, rfl⟩

/-- Every operation keeps `SAFE` and QUIT (R171, R175). -/
theorem exec_safe_of_phase_quit {i : Instr} {s t : State} (hs : Safe s) (hp : s.phase = .quit)
    (ht : exec i s = .next t) : Safe t ∧ t.phase = .quit := by
  by_cases hi : i = .quit
  · exact exec_quit_safe (hi ▸ ht)
  · obtain ⟨c, e⟩ := exec_of_phase_quit hp hi
    cases e.symm.trans ht
    exact ⟨hs, hp⟩

theorem step_shutDown {s t : State} (h : ShutDown s) (ht : step s = .next t) : ShutDown t := by
  obtain ⟨hr, hs, hp⟩ := h
  refine ⟨reset_not_mem_inbox_of_step hr ht, ?_⟩
  obtain ⟨-, e⟩ | ⟨rest, hi, -⟩ | ⟨r, rest, i, -, -, e⟩ | ⟨r, rest, er, -, -, e⟩ := step_cases s
  · cases e.symm.trans ht
    exact ⟨hs, hp⟩
  · exact absurd (hi ▸ List.mem_cons_self) hr
  · exact exec_safe_of_phase_quit (s := { s with inbox := rest }) hs hp (e.symm.trans ht)
  · cases e.symm.trans ht
    exact ⟨hs, hp⟩

/-! ### The statements -/

/-- Settles O33: the two arms of `START`. -/
theorem startOpensTheRun : Obligations.StartOpensTheRun :=
  ⟨selects_of_op (by decide) fun _ => rfl,
    fun ws ls cs _ => ⟨fun h => execStart_wait h ws ls cs, fun h => execStart_refused h ws ls cs⟩⟩

/-- Settles O34: the two arms of `CLASSIFY`, and the boundaries by `classifyTime_eq`. -/
theorem classifyGivesThePhase : Obligations.ClassifyGivesThePhase :=
  ⟨selects_of_op (by decide) fun _ => rfl,
    fun t _ d hd => by rw [← classifyTime_eq]; exact execClassify_some hd t,
    fun t _ h => execClassify_none (durations_eq_none_of_dv h) t⟩

/-- Settles O36: with `DV = 0` there are no durations to read. -/
theorem refusedBeforeStart : Obligations.RefusedBeforeStart :=
  fun t _ h => ⟨execClassify_none (durations_eq_none_of_dv h) t, execTick_none (durations_eq_none_of_dv h) t⟩

/-- Settles O38: the four cases of a change of phase are the four rows of the table. -/
theorem tickFollowsTheTransitionTable : Obligations.TickFollowsTheTransitionTable := by
  refine ⟨selects_of_op (by decide) fun _ => rfl, rfl, fun t s d hd hq => ?_, fun t s h => ?_⟩
  · rw [← classifyTime_eq]
    intro new done after
    have hafter (cfg : Config) : tick cfg t s = after cfg := by
      rw [tick_some hd hq]
      obtain ⟨h, e⟩ | ⟨hp, h, e⟩ | ⟨hp, h, e⟩ | ⟨h, hStart, hStop, e⟩ := changePhase_cases cfg (classifyTime d t) s
      · rw [e]
        exact (if_pos h).symm
      · have hne : classifyTime d t ≠ s.phase := by simp [hp, h]
        rw [e, emitAll_startLaser]
        exact ((if_neg hne).trans (if_pos ⟨hp, h⟩)).symm
      · have hne : classifyTime d t ≠ s.phase := by simp [hp, h]
        have hStart : ¬(s.phase = .warmup ∧ classifyTime d t = .lase) := by simp [h]
        rw [e, emitAll_stopLaser]
        exact ((if_neg hne).trans ((if_neg hStart).trans (if_pos ⟨hp, h⟩))).symm
      · rw [e]
        exact ((if_neg h).trans ((if_neg hStart).trans (if_neg hStop))).symm
    exact ⟨hafter, congrArg _ (hafter Config.fcps)⟩
  · obtain h | h := h
    · exact execTick_none (durations_eq_none_of_dv h) t
    · exact execTick_quit h t

/-- Settles O39: `TICK` finds QUIT, `START` finds no WAIT, and `exec_of_phase_quit` has the rest. -/
theorem quitIsTerminal : Obligations.QuitIsTerminal :=
  fun s hp => ⟨execTick_quit hp, execStart_refused (by simp [hp]), fun _ => exec_of_phase_quit hp,
    _, execQuit_eq s, rfl, rfl⟩

/-- Settles O40: `QUIT` has one arm. -/
theorem quitForcesTheOutputsOff : Obligations.QuitForcesTheOutputsOff :=
  ⟨selects_of_op (by decide) fun _ => rfl, execQuit_eq⟩

/-- Settles O41: `QUIT` gives a state that is `ShutDown`, and every step keeps that. -/
theorem shutdownHoldsUntilReset : Obligations.ShutdownHoldsUntilReset := by
  intro s k hr
  obtain ⟨t, ht⟩ := exec_next .quit s
  obtain ⟨hsafe, hp⟩ := exec_quit_safe ht
  obtain ⟨u, hu, -, husafe, hup⟩ :=
    afterSteps_of_invariant (fun _ _ => step_shutDown) k ⟨exec_inbox ht ▸ hr, hsafe, hp⟩
  exact ⟨t, u, ht, hsafe, hu, husafe, hup⟩

/-- Settles O43: `exec_tick_backward`, and from the WARMUP it leaves `exec_tick_starts`. -/
theorem backwardTimeIsTakenLiterally : Obligations.BackwardTimeIsTakenLiterally := by
  refine ⟨fun t s d hd hq hlt => exec_tick_backward hd hq hlt, fun t₁ t₂ s d hd hp h₁ hw₂ hl₂ => ?_⟩
  have hc₁ : classifyTime d t₁ = .warmup := classifyTime_eq_warmup_iff.mpr h₁
  have hc₂ : classifyTime d t₂ = .lase := classifyTime_eq_lase_iff.mpr ⟨hw₂, hl₂⟩
  have e₁ := exec_tick_backward hd (by simp [hp]) (t := t₁) (by rw [hc₁, hp]; decide)
  exact ⟨_, _, e₁, hc₁, rfl, rfl, rfl, exec_tick_starts (d := d) hd hc₁ hc₂, rfl, emitAll_outlog _ _⟩

end Sys2Proof.Machine
end

section
/-! Monotone time: the invariant `OnTime` is kept by every step, so the outputs follow the phase (R165, R180). -/

namespace Sys2Proof.Machine

section

variable {now later : Seconds} {s : State}

/-- The invariant at a time is the invariant at every later time. -/
theorem OnTime.mono (h : OnTime now s) (hle : now ≤ later) : OnTime later s where
  outputs := h.outputs
  wait := h.wait
  lase hp := (h.lase hp).imp fun _ ⟨hd, hw⟩ => ⟨hd, hw.trans hle⟩
  cool hp := (h.cool hp).imp fun _ ⟨hd, hl⟩ => ⟨hd, hl.trans hle⟩

/-- `OnTime` does not look at the model's own fields. -/
theorem OnTime.with_host (h : OnTime now s) (inbox : List HostEvent) (reply : Option Completion) :
    OnTime now { s with inbox, reply } :=
  ⟨h.outputs, h.wait, h.lase, h.cool⟩

/-- The values of reset: WAIT, and no latch holds a value (R41). -/
theorem onTime_resetBlock (now : Seconds) (s : State) : OnTime now (resetBlock s) where
  outputs := ⟨(nomatch ·), fun _ => ⟨.inl rfl, .inl rfl⟩⟩
  wait _ := rfl
  lase hp := nomatch hp
  cool hp := nomatch hp

/-- An accepted `START` touches no latch and enters WARMUP (R162). -/
theorem OnTime.start (h : OnTime now s) (hp : s.phase = .wait) (d : Durations) (reply : Option Completion) :
    OnTime now { s with durations := some d, phase := .warmup, reply } where
  outputs := ⟨(nomatch ·), fun _ => h.outputs.2 (by simp [hp])⟩
  wait hw := nomatch hw
  lase hl := nomatch hl
  cool hc := nomatch hc

/-- `QUIT` sets both latches to 0 (R175). -/
theorem onTime_quit (now : Seconds) (s : State) (reply : Option Completion) :
    OnTime now { s with outlog := s.outlog ++ stopLaser, oEn := some 0, pwmDuty := some 0, phase := .quit, reply } where
  outputs := ⟨(nomatch ·), fun _ => ⟨.inr rfl, .inr rfl⟩⟩
  wait hw := nomatch hw
  lase hl := nomatch hl
  cool hc := nomatch hc

/-- A state in the phase of a time meets the invariant at that time, when its outputs follow the phase. -/
theorem onTime_of_phase_eq_classifyTime {d : Durations} (hd : s.durations = some d)
    (hp : s.phase = classifyTime d now) (h : OutputsFollowPhase s) : OnTime now s where
  outputs := h
  wait hw := absurd (hp.symm.trans hw) (classifyTime_running d now).1
  lase hl := ⟨d, hd, (classifyTime_eq_lase_iff.mp (hp.symm.trans hl)).1⟩
  cool hc := ⟨d, hd, classifyTime_eq_cool_iff.mp (hp.symm.trans hc)⟩

/-- The phase of a time that is not before `now` is not before the stored one (R165 b). -/
theorem OnTime.phaseRank_le_classifyTime (h : OnTime now s) {d : Durations} (hd : s.durations = some d)
    (hq : s.phase ≠ .quit) (hle : now ≤ later) : phaseRank s.phase ≤ phaseRank (classifyTime d later) := by
  cases hp : s.phase with
  | wait => exact Nat.zero_le _
  | warmup => exact one_le_phaseRank_classifyTime d later
  | lase =>
    obtain ⟨d', hd', hw⟩ := h.lase hp
    cases hd.symm.trans hd'
    exact two_le_phaseRank_classifyTime (hw.trans hle)
  | cool =>
    obtain ⟨d', hd', hl⟩ := h.cool hp
    cases hd.symm.trans hd'
    rw [classifyTime_eq_cool_iff.mpr (hl.trans hle)]
  | quit => exact absurd hp hq

/-- In the order of the phases from WARMUP to COOL the one change that emits nothing is WARMUP to COOL: it leaves LASE
out (R174). -/
theorem ne_lase_of_silent_change {old new : Phase} (hw : old ≠ .wait) (hq : new ≠ .quit)
    (hrank : phaseRank old ≤ phaseRank new) (hne : new ≠ old) (hStart : ¬(old = .warmup ∧ new = .lase))
    (hStop : ¬(old = .lase ∧ new = .cool)) : old ≠ .lase ∧ new ≠ .lase := by
  constructor <;> rintro rfl
  · cases new with
    | wait => exact absurd hrank (by decide)
    | warmup => exact absurd hrank (by decide)
    | lase => exact hne rfl
    | cool => exact hStop ⟨rfl, rfl⟩
    | quit => exact hq rfl
  · cases old with
    | wait => exact hw rfl
    | warmup => exact hStart ⟨rfl, rfl⟩
    | lase => exact hne rfl
    | cool => exact absurd hrank (by decide)
    | quit => exact absurd hrank (by decide)

/-- A change of phase at a time that is not before `now` leaves the outputs following the phase (R172, R173, R174). -/
theorem OnTime.outputsFollowPhase_changePhase (h : OnTime now s) {d : Durations} (hd : s.durations = some d)
    (hq : s.phase ≠ .quit) (hle : now ≤ later) :
    OutputsFollowPhase (changePhase Config.fcps (classifyTime d later) s) := by
  obtain ⟨-, e⟩ | ⟨-, -, e⟩ | ⟨-, -, e⟩ | ⟨hne, hStart, hStop, e⟩ :=
    changePhase_cases Config.fcps (classifyTime d later) s <;> rw [e]
  · exact h.outputs
  · rw [emitAll_startLaser]
    exact ⟨fun _ => ⟨rfl, rfl, rfl, rfl⟩, absurd rfl⟩
  · rw [emitAll_stopLaser]
    exact ⟨(nomatch ·), fun _ => ⟨.inr rfl, .inr rfl⟩⟩
  · have hw : s.phase ≠ .wait := fun hw => nomatch hd.symm.trans (h.wait hw)
    obtain ⟨hold, hnew⟩ := ne_lase_of_silent_change hw (classifyTime_running d later).2
      (h.phaseRank_le_classifyTime hd hq hle) hne hStart hStop
    exact ⟨fun hl => absurd hl hnew, fun _ => h.outputs.2 hold⟩

/-- An accepted `TICK` at a time that is not before `now` moves the invariant to that time. -/
theorem OnTime.changePhase (h : OnTime now s) {d : Durations} (hd : s.durations = some d) (hq : s.phase ≠ .quit)
    (hle : now ≤ later) : OnTime later (changePhase Config.fcps (classifyTime d later) s) :=
  onTime_of_phase_eq_classifyTime (d := d) (by simp [changePhase_eq, hd]) (by rw [changePhase_eq])
    (h.outputsFollowPhase_changePhase hd hq hle)

/-- Every operation keeps the invariant, at the time a `TICK` presents, and at any later time otherwise. -/
theorem exec_onTime (h : OnTime now s) {i : Instr} (hle : now ≤ later) (htick : ∀ time, i = .tick time → later = time)
    {t : State} (ht : exec i s = .next t) : OnTime later t := by
  obtain ⟨c, e⟩ | ⟨ws, ls, cs, -, hw, e⟩ | ⟨time, d, hi, hd, hq, e⟩ | ⟨-, e⟩ := exec_cases i s <;> rw [e] at ht <;> cases ht
  · exact (h.mono hle).with_host _ _
  · exact (h.mono hle).start hw _ _
  · obtain rfl := htick time hi
    exact (h.changePhase hd hq hle).with_host _ _
  · exact onTime_quit _ _ _

end

/-- The latest time presented after the next step: the `TICK`'s, if the next event is one. -/
def nextTime (now : Seconds) (s : State) : Seconds := (s.inbox.head?.bind tickTime).getD now

theorem nextTime_of_decode {now t : Seconds} {s : State} {r : Request} {rest : List HostEvent}
    (hi : s.inbox = .op r :: rest) (hd : decode r = .ok (.tick t)) : nextTime now s = t := by
  simp [nextTime, hi, tickTime, hd]

theorem le_nextTime {now : Seconds} {s : State}
    (h : ∀ e time, s.inbox.head? = some e → tickTime e = some time → now ≤ time) : now ≤ nextTime now s := by
  cases ht : s.inbox.head?.bind tickTime with
  | none => simp [nextTime, ht]
  | some time =>
    obtain ⟨e, he, htime⟩ := Option.bind_eq_some_iff.mp ht
    simpa [nextTime, ht] using h e time he htime

/-- Every step keeps the invariant, when the `TICK` it takes, if it is one, presents no earlier time. -/
theorem step_onTime {now : Seconds} {s t : State} (h : OnTime now s) (hle : now ≤ nextTime now s)
    (ht : step s = .next t) : OnTime (nextTime now s) t := by
  obtain ⟨-, e⟩ | ⟨rest, -, e⟩ | ⟨r, rest, i, hi, hd, e⟩ | ⟨r, rest, er, -, -, e⟩ := step_cases s <;> rw [e] at ht
  · cases ht; exact h.mono hle
  · cases ht; exact onTime_resetBlock _ _
  · exact exec_onTime (h.with_host rest s.reply) hle (fun _ htick => nextTime_of_decode hi (htick ▸ hd)) ht
  · cases ht; exact (h.mono hle).with_host _ _

/-- Settles O45: `step_onTime`, the time being the next one presented. -/
theorem onTimeIsKeptByEveryStep : Obligations.OnTimeIsKeptByEveryStep :=
  fun _ _ _ h hle ht => step_onTime h (le_nextTime hle) ht

/-! ### Runs -/

/-- The state is on time, and the times of the `TICK`s still issued go on from there without decreasing. -/
def OnSchedule (s : State) : Prop :=
  ∃ now, OnTime now s ∧ (now :: s.inbox.filterMap tickTime).Pairwise (· ≤ ·)

/-- Taking the next event leaves the schedule of the times monotone. -/
theorem pairwise_nextTime {now : Seconds} {s : State} (h : (now :: s.inbox.filterMap tickTime).Pairwise (· ≤ ·)) :
    now ≤ nextTime now s ∧ (nextTime now s :: s.inbox.tail.filterMap tickTime).Pairwise (· ≤ ·) := by
  cases hi : s.inbox with
  | nil => simp [nextTime, hi]
  | cons e rest =>
    rw [hi] at h
    cases he : tickTime e with
    | none => simpa [nextTime, hi, he] using h
    | some time =>
      rw [List.filterMap_cons_some he] at h
      obtain ⟨hle, htail⟩ := List.pairwise_cons.mp h
      simp only [nextTime, hi, List.head?_cons, Option.bind_some, he, Option.getD_some, List.tail_cons]
      exact ⟨hle time List.mem_cons_self, htail⟩

theorem step_onSchedule {s t : State} (h : OnSchedule s) (ht : step s = .next t) : OnSchedule t := by
  obtain ⟨now, hnow, htimes⟩ := h
  obtain ⟨hle, htimes⟩ := pairwise_nextTime htimes
  exact ⟨nextTime now s, step_onTime hnow hle ht, by rwa [step_inbox ht]⟩

/-- A run of monotone times is on schedule from reset on. -/
theorem onSchedule_reset {es : List HostEvent} (h : MonotoneT es) : OnSchedule (State.reset.issue es) :=
  ⟨0, onTime_resetBlock 0 (State.reset.issue es), List.pairwise_cons.mpr ⟨fun _ _ => Nat.zero_le _, h⟩⟩

theorem onSchedule_afterSteps_reset {es : List HostEvent} (h : MonotoneT es) {k : Nat} {s : State}
    (hs : afterSteps k (State.reset.issue es) = some s) : OnSchedule s := by
  obtain ⟨t, ht, hsched⟩ := afterSteps_of_invariant (fun _ _ => step_onSchedule) k (onSchedule_reset h)
  cases hs.symm.trans ht
  exact hsched

/-- When the outputs follow the phase, the state is energized exactly in LASE: `DUTY_HALF` is not 0 (R36, R180). -/
theorem OutputsFollowPhase.energized_iff {s : State} (h : OutputsFollowPhase s) : Energized s ↔ s.phase = .lase := by
  obtain ⟨hLase, hElse⟩ := h
  refine ⟨fun he => ?_, fun hp => .inl (hLase hp).1⟩
  by_contra hp
  obtain ⟨hEn, hDuty⟩ := hElse hp
  obtain h1 | ⟨hn, h0⟩ := he
  · rw [h1] at hEn
    simp at hEn
  · exact hDuty.elim hn h0

/-- Settles O44: every state of the run is on time, so its outputs follow the phase. -/
theorem outputsFollowPhaseInMonotoneRuns : Obligations.OutputsFollowPhaseInMonotoneRuns := by
  intro es _ hmono k s hs
  obtain ⟨now, hnow, -⟩ := onSchedule_afterSteps_reset hmono hs
  exact ⟨hnow.outputs.1, hnow.outputs.2, hnow.outputs.energized_iff⟩

end Sys2Proof.Machine
end

section
/-! What is appended to `OUTLOG`, and how often the laser is started in a run of monotone time (R177, R178). -/

namespace Sys2Proof.Machine

/-! ### One operation -/

/-- The operation is a `TICK` that finds WARMUP and a time in the LASE interval (R177). -/
def StartsLaser (i : Instr) (s : State) : Prop :=
  ∃ time d, i = .tick time ∧ s.phase = .warmup ∧ s.durations = some d ∧ classifyTime d time = .lase

theorem firesLaser_iff_startsLaser {s : State} {r : Request} {rest : List HostEvent} {i : Instr}
    (h : s.inbox = .op r :: rest) (hd : decode r = .ok i) :
    FiresLaser s ↔ StartsLaser i { s with inbox := rest } := by
  constructor
  · rintro ⟨_, _, time, d, h', hd', hp, hdur, hw, hl⟩
    cases h.symm.trans h'
    cases hd.symm.trans hd'
    exact ⟨time, d, rfl, hp, hdur, classifyTime_eq_lase_iff.mpr ⟨hw, hl⟩⟩
  · rintro ⟨time, d, rfl, hp, hdur, hc⟩
    obtain ⟨hw, hl⟩ := classifyTime_eq_lase_iff.mp hc
    exact ⟨r, rest, time, d, h, hd, hp, hdur, hw, hl⟩

/-- All that an operation can append to `OUTLOG`: the five commands exactly when it starts the laser, else nothing or
the two (R172, R173, R175, R178). -/
theorem exec_outlog_cases (i : Instr) (s : State) : ∃ t, exec i s = .next t ∧
    ((StartsLaser i s ∧ t.outlog = s.outlog ++ startLaser Config.fcps ∧ t.phase = .lase) ∨
    (¬StartsLaser i s ∧ (t.outlog = s.outlog ∨ t.outlog = s.outlog ++ stopLaser))) := by
  by_cases hs : StartsLaser i s
  · obtain ⟨time, d, rfl, hp, hd, hc⟩ := hs
    exact ⟨_, exec_tick_starts hd hp hc, .inl ⟨⟨time, d, rfl, hp, hd, hc⟩, emitAll_outlog _ _, rfl⟩⟩
  · obtain ⟨c, e⟩ | ⟨ws, ls, cs, -, -, e⟩ | ⟨time, d, hi, hd, -, e⟩ | ⟨-, e⟩ := exec_cases i s
    · exact ⟨_, e, .inr ⟨hs, .inl rfl⟩⟩
    · exact ⟨_, e, .inr ⟨hs, .inl rfl⟩⟩
    · refine ⟨_, e, .inr ⟨hs, ?_⟩⟩
      rw [changePhase_eq]
      obtain ⟨hp, hc, -⟩ | ⟨-, -, e⟩ | ⟨-, -, e⟩ :=
        transitionCommands_cases Config.fcps s.phase (classifyTime d time)
      · exact absurd ⟨time, d, hi, hp, hd, hc⟩ hs
      · rw [e]; exact .inr (emitAll_outlog _ _)
      · rw [e]; exact .inl rfl
    · exact ⟨_, e, .inr ⟨hs, .inr rfl⟩⟩

/-- A sequencer operation delivers a phase or no value (R72). -/
theorem reply_ne_frame_of_not_isFcu {i : Instr} (hi : i.isFcu = false) {s t : State} (ht : exec i s = .next t)
    (st : Status) (f : Frame) : t.reply ≠ some ⟨st, some (.frame f)⟩ := by
  cases i with
  | start ws ls cs =>
    by_cases h : s.phase = .wait
    · cases (execStart_wait h ws ls cs).symm.trans ht; simp
    · cases (execStart_refused h ws ls cs).symm.trans ht; simp
  | classify time =>
    obtain h | ⟨d, h⟩ := Option.eq_none_or_eq_some s.durations
    · cases (execClassify_none h time).symm.trans ht; simp
    · cases (execClassify_some h time).symm.trans ht; simp
  | tick time =>
    cases ht
    obtain ⟨-, e⟩ | ⟨d, -, -, e⟩ := tick_cases Config.fcps time s <;> rw [e] <;> simp
  | quit => cases (execQuit_eq s).symm.trans ht; simp
  | _ => cases hi

theorem shutter_not_named : ∀ c ∈ startLaser Config.fcps ++ stopLaser, lineOf c ≠ some .shutter := by
  simp [startLaser, stopLaser, lineOf]

/-- Settles O51: `exec_outlog_cases`, and none of the seven commands names the shutter. -/
theorem commandsAreAppendedInOrder : Obligations.CommandsAreAppendedInOrder := by
  intro i s
  obtain ⟨t, ht, h⟩ := exec_outlog_cases i s
  have hreply : i.isFcu = false → ∀ st f, t.reply ≠ some ⟨st, some (.frame f)⟩ :=
    fun hi => reply_ne_frame_of_not_isFcu hi ht
  have hline := List.forall_mem_append.mp shutter_not_named
  obtain ⟨-, hlog, -⟩ | ⟨-, hlog | hlog⟩ := h
  · exact ⟨t, startLaser Config.fcps, ht, hlog, .inr (.inl rfl), hline.1, hreply⟩
  · exact ⟨t, [], ht, by rw [hlog, List.append_nil], .inl rfl, List.forall_mem_nil _, hreply⟩
  · exact ⟨t, stopLaser, ht, hlog, .inr (.inr rfl), hline.2, hreply⟩

/-! ### The three counts of R177 -/

/-- A command that the pattern has at its head only cannot be inside an occurrence that began before it. -/
theorem isPrefix_append_cons_iff {pattern log rest : List GpioCmd} {c : GpioCmd} (hc : c ∉ pattern.tail)
    (hne : log ≠ []) : pattern <+: log ++ c :: rest ↔ pattern <+: log := by
  refine ⟨fun h => ?_, fun h => h.trans (List.prefix_append _ _)⟩
  obtain h' | ⟨more, rfl⟩ := List.prefix_or_prefix_of_prefix h (List.prefix_append log (c :: rest))
  · exact h'
  · cases more with
    | nil => simp
    | cons x more =>
      obtain ⟨rfl, -⟩ := List.cons_prefix_cons.mp ((List.prefix_append_right_inj log).mp h)
      simp [List.tail_append_of_ne_nil hne] at hc

/-- So occurrences before such a command and from it on are counted apart. -/
theorem occurrences_append_cons {pattern : List GpioCmd} {c : GpioCmd} (hc : c ∉ pattern.tail)
    (log rest : List GpioCmd) :
    occurrences pattern (log ++ c :: rest) = occurrences pattern log + occurrences pattern (c :: rest) := by
  induction log with
  | nil => simp [occurrences]
  | cons a log ih =>
    have hp : pattern <+: a :: (log ++ c :: rest) ↔ pattern <+: a :: log :=
      isPrefix_append_cons_iff hc (List.cons_ne_nil a log)
    rw [List.cons_append, occurrences, occurrences, ih, Nat.add_assoc]
    simp only [hp]

/-- The log holds `n` PWM starts, `n` times the enable line set high, and the five commands `n` times (R177). -/
def LaserStarts (n : Nat) (log : List GpioCmd) : Prop :=
  log.countP isPwmStart = n ∧ log.count (.writeDigital .enable 1) = n ∧ occurrences (startLaser Config.fcps) log = n

theorem laserStarts_nil : LaserStarts 0 [] := ⟨rfl, rfl, rfl⟩

/-- The five commands are one start: no command of theirs after the first begins them again. -/
theorem laserStarts_startLaser : LaserStarts 1 (startLaser Config.fcps) := by
  refine ⟨?_, ?_, ?_⟩
  · simpa [startLaser, isPwmStart] using fcps_dutyHalf_ne_zero
  · simp [startLaser]
  · simp [startLaser, occurrences]

/-- The two commands are none: the duty they set is 0. -/
theorem laserStarts_stopLaser : LaserStarts 0 stopLaser := by
  refine ⟨?_, ?_, ?_⟩
  · simp [stopLaser, isPwmStart]
  · simp [stopLaser]
  · simp [startLaser, stopLaser, occurrences]

/-- The three counts add up, where a command begins the second log that the five have at their head only. -/
theorem LaserStarts.append {m n : Nat} {log rest : List GpioCmd} {c : GpioCmd} (h : LaserStarts m log)
    (hc : c ∉ (startLaser Config.fcps).tail) (h' : LaserStarts n (c :: rest)) :
    LaserStarts (m + n) (log ++ c :: rest) := by
  obtain ⟨hp, he, ho⟩ := h
  obtain ⟨hp', he', ho'⟩ := h'
  exact ⟨by rw [List.countP_append, hp, hp'], by rw [List.count_append, he, he'],
    by rw [occurrences_append_cons hc, ho, ho']⟩

theorem LaserStarts.start {n : Nat} {log : List GpioCmd} (h : LaserStarts n log) :
    LaserStarts (n + 1) (log ++ startLaser Config.fcps) :=
  h.append (by simp [startLaser]) laserStarts_startLaser

theorem LaserStarts.stop {n : Nat} {log : List GpioCmd} (h : LaserStarts n log) : LaserStarts n (log ++ stopLaser) :=
  h.append (by simpa [startLaser] using fcps_dutyHalf_ne_zero.symm) laserStarts_stopLaser

/-! ### Runs -/

/-- What one step without a reset appends to `OUTLOG` (R177, R178). -/
theorem step_outlog_cases {s t : State} (hr : .reset ∉ s.inbox) (ht : step s = .next t) :
    (FiresLaser s ∧ t.outlog = s.outlog ++ startLaser Config.fcps ∧ t.phase = .lase) ∨
    (¬FiresLaser s ∧ (t.outlog = s.outlog ∨ t.outlog = s.outlog ++ stopLaser)) := by
  obtain ⟨h, e⟩ | ⟨rest, h, -⟩ | ⟨r, rest, i, h, hd, e⟩ | ⟨r, rest, er, h, hd, e⟩ := step_cases s
  · cases e.symm.trans ht
    exact .inr ⟨fun ⟨_, _, _, _, h', _⟩ => absurd (h.symm.trans h') (List.cons_ne_nil _ _).symm, .inl rfl⟩
  · exact absurd (h ▸ List.mem_cons_self) hr
  · obtain ⟨u, hu, hcases⟩ := exec_outlog_cases i { s with inbox := rest }
    cases (hu.symm.trans e.symm).trans ht
    rwa [← firesLaser_iff_startsLaser h hd] at hcases
  · cases e.symm.trans ht
    refine .inr ⟨fun ⟨_, _, _, _, h', hd', _⟩ => ?_, .inl rfl⟩
    cases h.symm.trans h'
    cases hd.symm.trans hd'

theorem phaseRank_le_quit (ph : Phase) : phaseRank ph ≤ phaseRank .quit := by
  cases ph <;> decide

/-- In a run of monotone time no operation leads back to an earlier phase (R165 b). -/
theorem exec_phaseRank_le {now later : Seconds} {i : Instr} {s t : State} (h : OnTime now s) (hle : now ≤ later)
    (htick : ∀ time, i = .tick time → later = time) (ht : exec i s = .next t) :
    phaseRank s.phase ≤ phaseRank t.phase := by
  obtain ⟨c, e⟩ | ⟨ws, ls, cs, -, hw, e⟩ | ⟨time, d, hi, hd, hq, e⟩ | ⟨-, e⟩ := exec_cases i s <;> rw [e] at ht <;> cases ht
  · exact le_rfl
  · rw [hw]; exact Nat.zero_le _
  · obtain rfl := htick time hi
    rw [changePhase_eq]
    exact h.phaseRank_le_classifyTime hd hq hle
  · exact phaseRank_le_quit s.phase

theorem step_phaseRank_le {s t : State} (h : OnSchedule s) (hr : .reset ∉ s.inbox) (ht : step s = .next t) :
    phaseRank s.phase ≤ phaseRank t.phase := by
  obtain ⟨now, hnow, htimes⟩ := h
  obtain ⟨-, e⟩ | ⟨rest, hi, -⟩ | ⟨r, rest, i, hi, hd, e⟩ | ⟨r, rest, er, -, -, e⟩ := step_cases s
  · cases e.symm.trans ht; exact le_rfl
  · exact absurd (hi ▸ List.mem_cons_self) hr
  · exact exec_phaseRank_le (s := { s with inbox := rest }) (hnow.with_host rest s.reply) (pairwise_nextTime htimes).1
      (fun _ htick => nextTime_of_decode hi (htick ▸ hd)) (e.symm.trans ht)
  · cases e.symm.trans ht; exact le_rfl

/-- The last step of a run. -/
theorem exists_step_of_afterSteps_succ {k : Nat} {s₀ t : State} (h : afterSteps (k + 1) s₀ = some t) :
    ∃ s, afterSteps k s₀ = some s ∧ step s = .next t := by
  induction k generalizing s₀ with
  | zero =>
    obtain ⟨u, hu⟩ := step_next s₀
    simp only [afterSteps, hu, Option.some.injEq] at h
    exact ⟨s₀, rfl, h ▸ hu⟩
  | succ k ih =>
    obtain ⟨u, hu⟩ := step_next s₀
    rw [afterSteps, hu] at h
    obtain ⟨s, hs, ht⟩ := ih h
    exact ⟨s, by rw [afterSteps, hu]; exact hs, ht⟩

/-- Some step before the `k`th fired the laser. -/
def FiredWithin (s₀ : State) (k : Nat) : Prop := ∃ j u, j < k ∧ afterSteps j s₀ = some u ∧ FiresLaser u

theorem firedWithin_succ_iff {s₀ s : State} {k : Nat} (hs : afterSteps k s₀ = some s) :
    FiredWithin s₀ (k + 1) ↔ FiredWithin s₀ k ∨ FiresLaser s := by
  constructor
  · rintro ⟨j, u, hj, hu, hf⟩
    obtain hj | rfl := Nat.lt_succ_iff_lt_or_eq.mp hj
    · exact .inl ⟨j, u, hj, hu, hf⟩
    · cases hs.symm.trans hu
      exact .inr hf
  · rintro (⟨j, u, hj, hu, hf⟩ | hf)
    · exact ⟨j, u, Nat.lt_succ_of_lt hj, hu, hf⟩
    · exact ⟨k, s, Nat.lt_succ_self k, hs, hf⟩

/-- What a run of monotone time keeps: it fired and `OUTLOG` holds one start, and the phase is past WARMUP; or it did
not fire and `OUTLOG` holds none (R177). -/
def FiredOnce (fired : Prop) (s : State) : Prop :=
  (fired ∧ LaserStarts 1 s.outlog ∧ 2 ≤ phaseRank s.phase) ∨ (¬fired ∧ LaserStarts 0 s.outlog)

/-- A step that fires finds WARMUP, so it is the first that does; and no step leads back to WARMUP. -/
theorem step_firedOnce {fired : Prop} {s t : State} (h : FiredOnce fired s) (hs : OnSchedule s) (hr : .reset ∉ s.inbox)
    (ht : step s = .next t) : FiredOnce (fired ∨ FiresLaser s) t := by
  have hrank := step_phaseRank_le hs hr ht
  have keeps {n : Nat} (hn : LaserStarts n s.outlog) (hlog : t.outlog = s.outlog ∨ t.outlog = s.outlog ++ stopLaser) :
      LaserStarts n t.outlog := hlog.elim (· ▸ hn) (· ▸ hn.stop)
  obtain ⟨hfired, hn, hp⟩ | ⟨hfired, hn⟩ := h <;>
    obtain ⟨hfires, hlog, hlase⟩ | ⟨hfires, hlog⟩ := step_outlog_cases hr ht
  · obtain ⟨_, _, _, _, -, -, hw, -⟩ := hfires
    rw [hw] at hp
    exact absurd hp (by decide)
  · exact .inl ⟨.inl hfired, keeps hn hlog, hp.trans hrank⟩
  · exact .inl ⟨.inr hfires, hlog ▸ hn.start, by rw [hlase]; decide⟩
  · exact .inr ⟨not_or.mpr ⟨hfired, hfires⟩, keeps hn hlog⟩

theorem firedOnce_afterSteps_reset {es : List HostEvent} (hr : .reset ∉ es) (hmono : MonotoneT es) {k : Nat} {s : State}
    (hs : afterSteps k (State.reset.issue es) = some s) :
    .reset ∉ s.inbox ∧ FiredOnce (FiredWithin (State.reset.issue es) k) s := by
  induction k generalizing s with
  | zero =>
    cases hs
    exact ⟨hr, .inr ⟨fun ⟨_, _, hj, _⟩ => absurd hj (Nat.not_lt_zero _), laserStarts_nil⟩⟩
  | succ k ih =>
    obtain ⟨u, hu, ht⟩ := exists_step_of_afterSteps_succ hs
    obtain ⟨hur, hfired⟩ := ih hu
    rw [firedWithin_succ_iff hu]
    exact ⟨reset_not_mem_inbox_of_step hur ht, step_firedOnce hfired (onSchedule_afterSteps_reset hmono hu) hur ht⟩

/-- Settles O42: by `FiredOnce` the number of starts is at most one, and it is one exactly when the run fired. -/
theorem laserStartsExactlyOnce : Obligations.LaserStartsExactlyOnce := by
  intro es hr hmono k s hs fired
  obtain ⟨n, ⟨hpwm, hen, hfive⟩, hle, hiff⟩ : ∃ n, LaserStarts n s.outlog ∧ n ≤ 1 ∧ (n = 1 ↔ fired) := by
    obtain ⟨-, ⟨hfired, hn, -⟩ | ⟨hfired, hn⟩⟩ := firedOnce_afterSteps_reset hr hmono hs
    · exact ⟨1, hn, le_rfl, iff_of_true rfl hfired⟩
    · exact ⟨0, hn, Nat.zero_le 1, iff_of_false Nat.zero_ne_one hfired⟩
  rw [hpwm, hen, hfive]
  exact ⟨⟨hle, hle, hle⟩, hiff, hiff, hiff⟩

end Sys2Proof.Machine
end

section
/-! What the decoder makes of a selector, for the refusals of R203: it is reserved, or it names the operation of its
`op`. -/

namespace Sys2Proof

/-- The three ranges of R81 and R82. -/
def Request.Reserved (r : Request) : Prop :=
  (0x0C ≤ r.op.toNat ∧ r.op.toNat ≤ 0x0F) ∨ (0x14 ≤ r.op.toNat ∧ r.op.toNat ≤ 0x1F) ∨
  (r.op.toNat = 0x00 ∧ 13 ≤ r.var.toNat)

/-- The variant table has a row for every number up to 12 (R76). -/
theorem exists_variantOf_eq_ok {var : BitVec 4} (h : var.toNat < 13) : ∃ v, variantOf var = .ok v := by
  unfold variantOf
  split
  case h_14 =>
    simp only [imp_false] at *
    omega
  all_goals exact ⟨_, rfl⟩

/-- Every selector that is not reserved names an operation (R75). -/
theorem exists_decode_eq_ok {r : Request} (h : ¬r.Reserved) : ∃ i, decode r = .ok i := by
  obtain ⟨sel, p⟩ := r
  change ∃ i, decodeSel sel p = .ok i
  simp only [Request.Reserved, Request.op, Request.var, not_or, not_and, not_le] at h
  obtain ⟨hlow, hhigh, hvar⟩ := h
  unfold decodeSel
  split
  case h_1 hop =>
    obtain ⟨v, hv⟩ := exists_variantOf_eq_ok (hvar hop)
    exact ⟨_, by rw [hv]⟩
  case h_17 =>
    have hlt := (selOp sel).isLt
    simp only [imp_false] at *
    omega
  all_goals exact ⟨_, rfl⟩

/-- A request that decodes has the `op` of its operation. -/
theorem op_encode_of_decode {r : Request} {i : Instr} (h : decode r = .ok i) : (encode i).op = r.op := by
  obtain ⟨⟨-, hsel⟩ | ⟨-, hsel⟩, -⟩ := encode_of_decode h
  · exact congrArg selOp hsel
  · exact (congrArg selOp hsel).trans (selOp_append _ _)

end Sys2Proof
end

section
/-! The frame that a text spells in either case (R146, R147). -/

namespace Sys2Proof.Machine

/-- Either case of a digit has its value (R147). -/
theorem hexVal_upperCase : ∀ ch : Byte, hexVal (upperCase ch) = hexVal ch := by
  decide

theorem hexVal_hexChar : ∀ n : BitVec 4, hexVal (hexChar n) = some n.toNat := by
  decide

theorem upperCase_eq_hexChar_of_hexVal :
    ∀ ch : Byte, ∀ d ∈ hexVal ch, upperCase ch = hexChar (BitVec.ofNat 4 d) := by
  decide

/-- The digit for a nibble is the upper-case form of exactly the characters that have its value (R141, R142). -/
theorem upperCase_eq_hexChar_iff {ch : Byte} {n : BitVec 4} : upperCase ch = hexChar n ↔ hexVal ch = some n.toNat := by
  refine ⟨fun h => ?_, fun h => ?_⟩
  · rw [← hexVal_upperCase, h, hexVal_hexChar]
  · rw [upperCase_eq_hexChar_of_hexVal ch _ h, BitVec.ofNat_toNat, BitVec.setWidth_eq]

/-- The same of a whole text. -/
theorem map_upperCase_eq_iff {t : Text} {ns : List (BitVec 4)} :
    t.map upperCase = ns.map hexChar ↔ hexDigits t = some (ns.map BitVec.toNat) := by
  induction t generalizing ns with
  | nil => cases ns <;> simp [hexDigits_nil]
  | cons ch t ih => cases ns <;> simp [hexDigits_cons, Option.bind_eq_some_iff, upperCase_eq_hexChar_iff, ih]

/-- The ten nibbles of the integer form, most significant first (R143). -/
def frameNibbles (f : Frame) : List (BitVec 4) := (List.range 10).map (hexNibble (frameToInt f))

theorem frameToHex_eq_map_hexChar (f : Frame) : frameToHex f = (frameNibbles f).map hexChar := rfl

/-- The base 16 digits of a number, from the `k`th down, have its value (R146). -/
theorem digitsValue_map_range (n k : Nat) :
    digitsValue ((List.range k).map fun i => n / 16 ^ (k - 1 - i) % 16) = n % 16 ^ k := by
  induction k generalizing n with
  | zero => simp [digitsValue, Nat.mod_one]
  | succ k ih =>
    have hshift : ∀ i ∈ List.range k, n / 16 ^ (k + 1 - 1 - i) % 16 = n / 16 / 16 ^ (k - 1 - i) % 16 := by
      intro i hi
      have hik : k + 1 - 1 - i = (k - 1 - i) + 1 := by
        have := List.mem_range.mp hi
        omega
      rw [hik, Nat.pow_succ', Nat.div_div_eq_div_mul]
    rw [List.range_succ, List.map_append, List.map_congr_left hshift, Nat.pow_succ', Nat.mod_mul, ← ih (n / 16)]
    simp [digitsValue, Nat.add_comm]

/-- The nibbles' positional value is the integer form (R146). -/
theorem digitsValue_frameNibbles (f : Frame) :
    digitsValue ((frameNibbles f).map BitVec.toNat) = (frameToInt f).toNat := by
  have hnibble : BitVec.toNat ∘ hexNibble (frameToInt f) =
      fun i => (frameToInt f).toNat / 16 ^ (10 - 1 - i) % 16 := by
    funext i
    have hstart : 36 - 4 * i = 4 * (10 - 1 - i) := by omega
    rw [Function.comp_apply, hexNibble, BitVec.extractLsb'_toNat, Nat.shiftRight_eq_div_pow, hstart, Nat.pow_mul]
  rw [frameNibbles, List.map_map, hnibble, digitsValue_map_range]
  exact Nat.mod_eq_of_lt (frameToInt f).isLt

/-- Digit lists of one length with one positional value are equal. -/
theorem digitsValue_inj {ds es : List Nat} (hlen : ds.length = es.length) (hd : ∀ d ∈ ds, d < 16)
    (he : ∀ e ∈ es, e < 16) (h : digitsValue ds = digitsValue es) : ds = es := by
  rw [digitsValue_eq_ofDigits, digitsValue_eq_ofDigits] at h
  exact List.reverse_inj.mp <| Nat.ofDigits_inj_of_len_eq (by decide) (by simpa using hlen)
    (fun d hm => hd d (List.mem_reverse.mp hm)) (fun e hm => he e (List.mem_reverse.mp hm)) h

/-- Ten digits are the nibbles of the frame cut from their value. -/
theorem eq_frameNibbles {ds : List Nat} (hlen : ds.length = 10) (hd : ∀ d ∈ ds, d < 16) :
    ds = (frameNibbles (intToFrame (BitVec.ofNat 40 (digitsValue ds)))).map BitVec.toNat := by
  refine digitsValue_inj (by simp [frameNibbles, hlen]) hd (fun e he => ?_) ?_
  · obtain ⟨n, -, rfl⟩ := List.mem_map.mp he
    exact n.isLt
  · have hlt := digitsValue_lt hd
    rw [hlen] at hlt
    rw [digitsValue_frameNibbles, frameToInt_intToFrame, BitVec.toNat_ofNat, Nat.mod_eq_of_lt (by omega)]

/-- A text of ten digits spells a frame, in either case. -/
theorem exists_frame_of_text {t : Text} (hlen : t.length = 10) (hdig : ¬∃ ch ∈ t, hexVal ch = none) :
    ∃ f, t.map upperCase = frameToHex f := by
  obtain ⟨ds, hd⟩ := Option.ne_none_iff_exists'.mp (mt hexDigits_eq_none.mp hdig)
  refine ⟨intToFrame (BitVec.ofNat 40 (digitsValue ds)), ?_⟩
  rw [frameToHex_eq_map_hexChar, map_upperCase_eq_iff, hd]
  exact congrArg some (eq_frameNibbles ((length_of_hexDigits hd).trans hlen) fun _ => lt_of_mem_hexDigits hd)

/-- `H2F` of a text that spells a frame is the checksum comparison on that frame (R146, R147). -/
theorem decodeHex_of_spells {t : Text} {f : Frame} (h : t.map upperCase = frameToHex f) (ck : Checksum) :
    decodeHex ck t = checkFrame ck f := by
  have hlen : t.length = 10 := by simpa using congrArg List.length h
  rw [frameToHex_eq_map_hexChar, map_upperCase_eq_iff] at h
  rw [decodeHex_digits hlen h, digitsValue_frameNibbles, BitVec.ofNat_toNat,
    BitVec.setWidth_eq, intToFrame_frameToInt]

theorem exec_h2f_spelled_valid {t : Text} {f : Frame} (ht : t.map upperCase = frameToHex f)
    (h : ValidFrame Config.fcps.ck f) (s : State) :
    exec (.h2f t) s = .next { s with reply := some ⟨.ok, some (.frame f)⟩ } := by
  rw [exec_h2f, decodeHex_of_spells ht, checkFrame_valid h]
  rfl

theorem exec_h2f_spelled_invalid {t : Text} {f : Frame} (ht : t.map upperCase = frameToHex f)
    (h : ¬ValidFrame Config.fcps.ck f) (s : State) :
    exec (.h2f t) s = .next { s with reply := some ⟨.checksumMismatch, none⟩ } := by
  rw [exec_h2f, decodeHex_of_spells ht, checkFrame_invalid h]
  rfl

end Sys2Proof.Machine
end

section
/-! Error results: what raises each error status, and that nothing else does (R200 to R203, R209). -/

namespace Sys2Proof.Machine

/-- The causes of a status other than OK (R201, R202, and R203 for an operation). -/
def Raises (st : Status) (i : Instr) (s : State) : Prop :=
  match st with
  | .ok => False
  | .wrongLength =>
    (∃ bs, i = .decb bs ∧ bs.length ≠ 5) ∨
    (∃ text, i = .h2f text ∧ (text.length ≠ 10 ∨ ∃ ch ∈ text, hexVal ch = none))
  | .checksumMismatch =>
    ∃ f : Frame, Config.fcps.ck f.header f.datum1 f.datum2 f.datum3 ≠ f.checksum ∧
      (i = .validate f ∨ i = .decb [f.header, f.datum1, f.datum2, f.datum3, f.checksum] ∨
        ∃ text, i = .h2f text ∧ text.map upperCase = frameToHex f)
  | .refused =>
    (∃ ws ls cs, i = .start ws ls cs ∧ s.phase ≠ .wait) ∨ (∃ t, i = .classify t ∧ s.dv = false) ∨
    (∃ t, i = .tick t ∧ (s.dv = false ∨ s.phase = .quit))

/-- Where a cause is met the operation ends in its error result (R209). -/
theorem exec_of_raises {st : Status} {i : Instr} {s : State} (h : Raises st i s) :
    exec i s = .next { s with reply := some ⟨st, none⟩ } := by
  cases st with
  | ok => exact h.elim
  | wrongLength =>
    obtain ⟨bs, rfl, hlen⟩ | ⟨text, rfl, htext⟩ := h
    · exact exec_decb_wrongLength hlen s
    · exact exec_h2f_wrongLength htext s
  | checksumMismatch =>
    obtain ⟨f, hf, rfl | rfl | ⟨text, rfl, htext⟩⟩ := h
    · exact exec_validate_invalid hf s
    · exact exec_decb_invalid hf s
    · exact exec_h2f_spelled_invalid htext hf s
  | refused =>
    obtain ⟨ws, ls, cs, rfl, hp⟩ | ⟨t, rfl, hdv⟩ | ⟨t, rfl, hdv | hq⟩ := h
    · exact execStart_refused hp ws ls cs
    · exact execClassify_none (durations_eq_none_of_dv hdv) t
    · exact execTick_none (durations_eq_none_of_dv hdv) t
    · exact execTick_quit hq t

/-- Where no cause is met the operation completes with OK. -/
theorem exec_ok_of_not_raises {i : Instr} {s : State} (h : ∀ st, ¬Raises st i s) :
    ∃ t v, exec i s = .next t ∧ t.reply = some ⟨.ok, v⟩ := by
  cases i with
  | validate f =>
    have hf : ValidFrame Config.fcps.ck f := by
      by_contra hf
      exact h .checksumMismatch ⟨f, hf, .inl rfl⟩
    exact ⟨_, _, exec_validate_valid hf s, rfl⟩
  | decb bs =>
    have hlen : bs.length = 5 := by
      by_contra hlen
      exact h .wrongLength (.inl ⟨bs, rfl, hlen⟩)
    obtain ⟨f, rfl⟩ := exists_frame_of_length_five hlen
    have hf : ValidFrame Config.fcps.ck f := by
      by_contra hf
      exact h .checksumMismatch ⟨f, hf, .inr (.inl rfl)⟩
    exact ⟨_, _, exec_decb_valid hf s, rfl⟩
  | h2f text =>
    have htext : ¬(text.length ≠ 10 ∨ ∃ ch ∈ text, hexVal ch = none) :=
      fun htext => h .wrongLength (.inr ⟨text, rfl, htext⟩)
    obtain ⟨hlen, hdig⟩ := not_or.mp htext
    obtain ⟨f, hspell⟩ := exists_frame_of_text (not_not.mp hlen) hdig
    have hf : ValidFrame Config.fcps.ck f := by
      by_contra hf
      exact h .checksumMismatch ⟨f, hf, .inr (.inr ⟨text, rfl, hspell⟩)⟩
    exact ⟨_, _, exec_h2f_spelled_valid hspell hf s, rfl⟩
  | start ws ls cs =>
    have hp : s.phase = .wait := by
      by_contra hp
      exact h .refused (.inl ⟨ws, ls, cs, rfl, hp⟩)
    exact ⟨_, _, execStart_wait hp ws ls cs, rfl⟩
  | classify time =>
    obtain hd | ⟨d, hd⟩ := Option.eq_none_or_eq_some s.durations
    · exact absurd (.inr (.inl ⟨time, rfl, congrArg Option.isSome hd⟩)) (h .refused)
    · exact ⟨_, _, execClassify_some hd time, rfl⟩
  | tick time =>
    obtain ⟨hd | hq, -⟩ | ⟨d, hd, hq, -⟩ := tick_cases Config.fcps time s
    · exact absurd (.inr (.inr ⟨time, rfl, .inl (congrArg Option.isSome hd)⟩)) (h .refused)
    · exact absurd (.inr (.inr ⟨time, rfl, .inr hq⟩)) (h .refused)
    · exact ⟨_, _, execTick_some hd hq time, rfl⟩
  | quit => exact ⟨_, _, execQuit_eq s, rfl⟩
  | _ => exact ⟨_, _, rfl, rfl⟩

/-- Every operation completes; its status is an error exactly where the error's cause is met, and then it delivers no
value and leaves the state as it was (R200, R209). Two causes cannot meet, since an operation has one completion. -/
theorem exec_completes (i : Instr) (s : State) : ∃ t c, exec i s = .next t ∧ t.reply = some c ∧
    (∀ st, st ≠ .ok → (c.status = st ↔ Raises st i s)) ∧
    (c.status ≠ .ok → c.value = none ∧ t = { s with reply := some c }) := by
  by_cases h : ∃ st, Raises st i s
  · obtain ⟨st, hst⟩ := h
    have e := exec_of_raises hst
    refine ⟨_, ⟨st, none⟩, e, rfl, fun st' _ => ⟨?_, fun hst' => ?_⟩, fun _ => ⟨rfl, rfl⟩⟩
    · rintro rfl
      exact hst
    · cases next_reply_inj.mp (e.symm.trans (exec_of_raises hst'))
      rfl
  · have hnone := not_exists.mp h
    obtain ⟨t, v, e, hv⟩ := exec_ok_of_not_raises hnone
    exact ⟨t, ⟨.ok, v⟩, e, hv, fun st hst => iff_of_false hst.symm (hnone st), absurd rfl⟩

/-- The causes of `REFUSED` by the operation's `op`, as R203's table has them. -/
theorem raises_refused_iff (i : Instr) (s : State) :
    Raises .refused i s ↔
      ((encode i).op.toNat = 0x10 ∧ s.phase ≠ .wait) ∨ ((encode i).op.toNat = 0x11 ∧ s.dv = false) ∨
      ((encode i).op.toNat = 0x12 ∧ s.dv = false) ∨ ((encode i).op.toNat = 0x12 ∧ s.phase = .quit) := by
  cases i <;> simp [Raises, encode, Request.op, selOp]

/-! ### The statements -/

/-- Settles O52: `step_next`, and `exec_completes`. -/
theorem everyOperationCompletes : Obligations.EveryOperationCompletes := by
  refine ⟨step_next, fun i s => ?_⟩
  obtain ⟨t, c, e, hc, -⟩ := exec_completes i s
  exact ⟨t, c, e, hc⟩

/-- Settles O53: `exec_completes`; neither `TICK` nor `QUIT` is among the causes of the two statuses. -/
theorem errorResultsArePrecise : Obligations.ErrorResultsArePrecise := by
  intro i s
  obtain ⟨t, c, e, hc, hcause, hframe⟩ := exec_completes i s
  refine ⟨t, c, e, hc, fun hst => ?_, fun hi => ?_⟩
  · obtain ⟨hv, ht⟩ := hframe hst
    rw [ht, ← hv]
  · rw [Ne, hcause _ (by decide), Ne, hcause _ (by decide)]
    obtain ⟨time, rfl⟩ | rfl := hi <;> simp [Raises]

/-- Settles O54: the causes of `WRONG_LENGTH` in `exec_completes`. -/
theorem wrongLengthCauses : Obligations.WrongLengthCauses := by
  intro i s
  obtain ⟨t, c, e, hc, hcause, hframe⟩ := exec_completes i s
  exact ⟨t, c, e, hc, hcause .wrongLength (by decide), fun hst => hframe (by simp [hst])⟩

/-- Settles O55: the causes of `CHECKSUM_MISMATCH` in `exec_completes`. -/
theorem checksumMismatchCauses : Obligations.ChecksumMismatchCauses := by
  intro i s
  obtain ⟨t, c, e, hc, hcause, hframe⟩ := exec_completes i s
  exact ⟨t, c, e, hc, hcause .checksumMismatch (by decide), fun hst => hframe (by simp [hst])⟩

/-- Settles O56: a reserved selector is refused; any other names an operation, and `exec_completes` has its causes. -/
theorem refusedCauses : Obligations.RefusedCauses := by
  intro s r rest h
  by_cases hr : r.Reserved
  · exact ⟨_, _, reservedSelectorsAreRefused s r rest h hr, rfl,
      iff_of_true rfl (hr.imp_right (Or.imp_right .inl)), fun _ => rfl⟩
  · obtain ⟨i, hd⟩ := exists_decode_eq_ok hr
    obtain ⟨t, c, e, hc, hcause, hframe⟩ := exec_completes i { s with inbox := rest }
    refine ⟨t, c, (step_of_decode_ok h hd).trans e, hc, ?_, fun hst => ?_⟩
    · obtain ⟨hlow, hhigh, hvar⟩ : ¬_ ∧ ¬_ ∧ ¬_ := by simpa only [Request.Reserved, not_or] using hr
      rw [hcause .refused (by decide), raises_refused_iff, op_encode_of_decode hd, or_iff_right hlow,
        or_iff_right hhigh, or_iff_right hvar]
      exact Iff.rfl
    · obtain ⟨hv, ht⟩ := hframe (by simp [hst])
      rw [ht, ← hst, ← hv]

end Sys2Proof.Machine
end

section
/-! What an operation and a step do to the phase, in any state: without a reset nothing leaves QUIT or enters WAIT
(R231). -/

namespace Sys2Proof.Machine

/-- An operation that changes the phase neither leaves QUIT nor enters WAIT. -/
theorem exec_phase_cases {i : Instr} {s t : State} (ht : exec i s = .next t) :
    t.phase = s.phase ∨ (s.phase ≠ .quit ∧ t.phase ≠ .wait) := by
  obtain ⟨c, e⟩ | ⟨ws, ls, cs, -, hw, e⟩ | ⟨time, d, -, -, hq, e⟩ | ⟨-, e⟩ := exec_cases i s <;> cases e.symm.trans ht
  · exact .inl rfl
  · exact .inr ⟨by simp [hw], nofun⟩
  · rw [changePhase_eq]
    exact .inr ⟨hq, (classifyTime_running d time).1⟩
  · by_cases hq : s.phase = .quit
    · exact .inl hq.symm
    · exact .inr ⟨hq, nofun⟩

/-- Only a step that takes a reset can do to the phase what no operation does. -/
theorem step_phase_cases {s t : State} (ht : step s = .next t) :
    s.inbox.head? = some .reset ∨ t.phase = s.phase ∨ (s.phase ≠ .quit ∧ t.phase ≠ .wait) := by
  obtain ⟨-, e⟩ | ⟨rest, hi, -⟩ | ⟨r, rest, i, -, -, e⟩ | ⟨r, rest, er, -, -, e⟩ := step_cases s
  · cases e.symm.trans ht
    exact .inr (.inl rfl)
  · exact .inl (by rw [hi, List.head?_cons])
  · exact .inr (exec_phase_cases (s := { s with inbox := rest }) (e.symm.trans ht))
  · cases e.symm.trans ht
    exact .inr (.inl rfl)

/-- WAIT is the one phase in which `START` is not refused: there it answers OK (R162). -/
theorem exec_start_refused_iff (ws ls cs : Seconds) (s : State) :
    exec (.start ws ls cs) s = .next { s with reply := some ⟨.refused, none⟩ } ↔ s.phase ≠ .wait := by
  refine ⟨fun h hw => ?_, fun h => execStart_refused h ws ls cs⟩
  have hreply := congrArg State.reply (Host.Outcome.next.inj ((execStart_wait hw ws ls cs).symm.trans h))
  cases hreply

/-! ### The statements -/

/-- Settles O57: `step_phase_cases` in its two directions, and the arms of `START`. -/
theorem onlyResetLeavesQuit : Obligations.OnlyResetLeavesQuit := by
  intro s
  obtain ⟨t, ht⟩ := step_next s
  refine ⟨t, ht, fun hq hleft => ?_, fun hw hentered => ?_, fun ws ls cs => exec_start_refused_iff ws ls cs s⟩ <;>
    obtain hreset | heq | ⟨hnq, hnw⟩ := step_phase_cases ht
  · exact hreset
  · exact absurd (heq.trans hq) hleft
  · exact absurd hq hnq
  · exact hreset
  · exact absurd (heq.symm.trans hentered) hw
  · exact absurd hentered hnw

end Sys2Proof.Machine
end

section
/-! The events that are no operation, the selector words of the spec, and the invariants at reset. -/

namespace Sys2Proof.Machine

/-- Settles O6: of the four things a step can do (`step_cases`), a reset at the head of `inbox` leaves `resetBlock`. -/
theorem resetEventRestoresResetValues : Obligations.ResetEventRestoresResetValues := by
  intro s rest h
  obtain ⟨h', -⟩ | ⟨_, h', e⟩ | ⟨_, _, _, h', -⟩ | ⟨_, _, _, h', -⟩ := step_cases s <;> rw [h] at h' <;> cases h'
  rw [e, resetBlock_eq]

/-- Settles O8: of the four things a step can do, an empty `inbox` leaves the idle one. -/
theorem idleStepChangesNothing : Obligations.IdleStepChangesNothing := by
  intro s h
  obtain ⟨-, e⟩ | ⟨_, h', -⟩ | ⟨_, _, _, h', -⟩ | ⟨_, _, _, h', -⟩ := step_cases s
  · exact e
  all_goals
    rw [h] at h'
    cases h'

/-- Settles O7: one row of R75 for each word. -/
theorem selectorWordsDecodeAsTheMapSays : Obligations.SelectorWordsDecodeAsTheMapSays :=
  ⟨rfl, rfl, rfl, rfl, rfl, rfl, rfl⟩

/-- Settles O47: but for what is issued, the reset state is one that reset gives. -/
theorem resetStateMeetsTheInvariants : Obligations.ResetStateMeetsTheInvariants :=
  fun es now => ⟨coherent_resetBlock (State.reset.issue es), onTime_resetBlock now (State.reset.issue es)⟩

end Sys2Proof.Machine
end

section
/-! What each operation may write (R23, R35). -/

namespace Sys2Proof.Machine

/-- A change of phase writes neither the durations nor the shutter latch (R23, R29). -/
theorem changePhase_durations_oSh (cfg : Config) (new : Phase) (s : State) :
    (changePhase cfg new s).durations = s.durations ∧ (changePhase cfg new s).oSh = s.oSh := by
  obtain ⟨-, e⟩ | ⟨-, -, e⟩ | ⟨-, -, e⟩ | ⟨-, -, -, e⟩ := changePhase_cases cfg new s <;> rw [e]
  · exact ⟨rfl, rfl⟩
  · rw [emitAll_startLaser]; exact ⟨rfl, rfl⟩
  · rw [emitAll_stopLaser]; exact ⟨rfl, rfl⟩
  · exact ⟨rfl, rfl⟩

/-- Settles O48: the reply alone changes, or one of the three operations of `exec_cases` writes its own elements. -/
theorem onlyListedOperationsWriteState : Obligations.OnlyListedOperationsWriteState := by
  intro i s
  obtain ⟨c, e⟩ | ⟨ws, ls, cs, hi, -, e⟩ | ⟨time, d, hi, -, -, e⟩ | ⟨hi, e⟩ := exec_cases i s <;> refine ⟨_, e, ?_⟩
  · exact ⟨absurd rfl, absurd rfl, absurd rfl, rfl, absurd rfl, absurd rfl, absurd rfl, absurd rfl, rfl⟩
  · have hstart : ∃ ws ls cs, i = .start ws ls cs := ⟨ws, ls, cs, hi⟩
    exact ⟨fun _ => .inl hstart, fun _ => hstart, absurd rfl, rfl, absurd rfl, absurd rfl, absurd rfl, absurd rfl, rfl⟩
  · have htick : ∃ time, i = .tick time := ⟨time, hi⟩
    obtain ⟨hd, hSh⟩ := changePhase_durations_oSh Config.fcps (classifyTime d time) s
    exact ⟨fun _ => .inr (.inl htick), absurd hd, fun _ => .inl htick, hSh, fun _ => htick, fun _ => htick,
      fun _ => .inl htick, fun _ => .inl htick, exec_inbox e⟩
  · exact ⟨fun _ => .inr (.inr hi), absurd rfl, fun _ => .inr hi, rfl, absurd rfl, absurd rfl, fun _ => .inr hi,
      fun _ => .inr hi, rfl⟩

end Sys2Proof.Machine
end

section
/-! The hex digits (R141, R142), and the texts of `F2H` and `H2F` made of them (R145, R147, R148). -/

namespace Sys2Proof.Machine

/-! ### Digits -/

section

variable {ch : Byte}

theorem hexVal_of_decimal (h : 0x30 ≤ ch.toNat) (h' : ch.toNat ≤ 0x39) : hexVal ch = some (ch.toNat - 0x30) :=
  if_pos ⟨h, h'⟩

theorem hexVal_of_upper (h : 0x41 ≤ ch.toNat) (h' : ch.toNat ≤ 0x46) : hexVal ch = some (ch.toNat - 0x41 + 10) :=
  (if_neg (by omega)).trans (if_pos ⟨h, h'⟩)

theorem hexVal_of_lower (h : 0x61 ≤ ch.toNat) (h' : ch.toNat ≤ 0x66) : hexVal ch = some (ch.toNat - 0x61 + 10) :=
  (if_neg (by omega)).trans ((if_neg (by omega)).trans (if_pos ⟨h, h'⟩))

theorem hexVal_eq_none (hDec : ¬(0x30 ≤ ch.toNat ∧ ch.toNat ≤ 0x39)) (hUp : ¬(0x41 ≤ ch.toNat ∧ ch.toNat ≤ 0x46))
    (hLow : ¬(0x61 ≤ ch.toNat ∧ ch.toNat ≤ 0x66)) : hexVal ch = none :=
  (if_neg hDec).trans ((if_neg hUp).trans (if_neg hLow))

end

theorem hexChar_toNat (n : BitVec 4) :
    (n.toNat ≤ 9 → (hexChar n).toNat = 0x30 + n.toNat) ∧ (10 ≤ n.toNat → (hexChar n).toNat = 0x41 + n.toNat - 10) := by
  revert n
  decide

theorem hexChar_injective : Function.Injective hexChar := by
  intro m n h
  have hv : some m.toNat = some n.toNat := by rw [← hexVal_hexChar, h, hexVal_hexChar]
  exact BitVec.eq_of_toNat_eq (Option.some.inj hv)

/-- The code of a digit `0` to `9` or `A` to `F` (R142). -/
abbrev IsUpperHexDigit (ch : Byte) : Prop :=
  (0x30 ≤ ch.toNat ∧ ch.toNat ≤ 0x39) ∨ (0x41 ≤ ch.toNat ∧ ch.toNat ≤ 0x46)

theorem isUpperHexDigit_hexChar (n : BitVec 4) : IsUpperHexDigit (hexChar n) := by
  obtain ⟨hDec, hUp⟩ := hexChar_toNat n
  have hn := n.isLt
  by_cases h : n.toNat ≤ 9
  · rw [IsUpperHexDigit, hDec h]; omega
  · rw [IsUpperHexDigit, hUp (by omega)]; omega

theorem IsUpperHexDigit.hexVal_ne_none {ch : Byte} (h : IsUpperHexDigit ch) : hexVal ch ≠ none := by
  obtain ⟨h, h'⟩ | ⟨h, h'⟩ := h
  · simp [hexVal_of_decimal h h']
  · simp [hexVal_of_upper h h']

/-- The codes of `a` to `f` lie above those of the upper-case digits. -/
theorem IsUpperHexDigit.upperCase_eq {ch : Byte} (h : IsUpperHexDigit ch) : upperCase ch = ch := by
  refine if_neg fun ⟨hLow, _⟩ => ?_
  have hLow : 0x61 ≤ ch.toNat := hLow
  unfold IsUpperHexDigit at h
  omega

/-! ### Texts -/

theorem isUpperHexDigit_of_mem_frameToHex {f : Frame} {ch : Byte} (h : ch ∈ frameToHex f) : IsUpperHexDigit ch := by
  rw [frameToHex_eq_map_hexChar] at h
  obtain ⟨n, -, rfl⟩ := List.mem_map.mp h
  exact isUpperHexDigit_hexChar n

theorem map_upperCase_of_isUpperHexDigit {t : Text} (h : ∀ ch ∈ t, IsUpperHexDigit ch) : t.map upperCase = t :=
  (List.map_congr_left fun ch hm => (h ch hm).upperCase_eq).trans (List.map_id' t)

/-- The text has the frame's nibbles, they the integer form, and that the frame (R145). -/
theorem frameToHex_injective : Function.Injective frameToHex := by
  intro f g h
  have hnibbles : frameNibbles f = frameNibbles g := List.map_injective_iff.mpr hexChar_injective h
  have hint : frameToInt f = frameToInt g :=
    BitVec.eq_of_toNat_eq (by rw [← digitsValue_frameNibbles, hnibbles, digitsValue_frameNibbles])
  rw [← intToFrame_frameToInt f, hint, intToFrame_frameToInt]

theorem exec_f2h_eq_text_iff {f : Frame} {t : Text} {s : State} :
    exec (.f2h f) s = .next { s with reply := some ⟨.ok, some (.text t)⟩ } ↔ frameToHex f = t := by
  simp [exec_f2h]

/-- `H2F` does not see the case of a letter (R147). -/
theorem decodeHex_map_upperCase (ck : Checksum) (t : Text) : decodeHex ck (t.map upperCase) = decodeHex ck t := by
  have hdigits : hexDigits (t.map upperCase) = hexDigits t := by
    induction t with
    | nil => rfl
    | cons ch t ih => rw [List.map_cons, hexDigits_cons, hexDigits_cons, hexVal_upperCase, ih]
  simp only [decodeHex, List.length_map, hdigits]

/-- What `H2F` accepts spells the frame it delivers (R147): of its three answers only one delivers a frame. -/
theorem map_upperCase_eq_of_exec_h2f {t : Text} {f : Frame} {s : State}
    (h : exec (.h2f t) s = .next { s with reply := some ⟨.ok, some (.frame f)⟩ }) : t.map upperCase = frameToHex f := by
  by_cases hbad : t.length ≠ 10 ∨ ∃ ch ∈ t, hexVal ch = none
  · cases next_reply_inj.mp ((exec_h2f_wrongLength hbad s).symm.trans h)
  · obtain ⟨hlen, hdig⟩ := not_or.mp hbad
    obtain ⟨g, hg⟩ := exists_frame_of_text (not_not.mp hlen) hdig
    by_cases hv : ValidFrame Config.fcps.ck g
    · cases next_reply_inj.mp ((exec_h2f_spelled_valid hg hv s).symm.trans h)
      exact hg
    · cases next_reply_inj.mp ((exec_h2f_spelled_invalid hg hv s).symm.trans h)

/-! ### The statements -/

/-- Settles O27: one arm of `hexVal` for each range of codes. -/
theorem hexDigitCodes : Obligations.HexDigitCodes :=
  ⟨fun _ => ⟨hexVal_of_decimal, hexVal_of_upper, hexVal_of_lower, hexVal_eq_none⟩,
    fun n => and_assoc.mp ⟨hexChar_toNat n, hexVal_hexChar n⟩⟩

/-- Settles O29: every character is a `hexChar`, and `frameToHex_injective`. -/
theorem hexTextIsUpperCaseAndInjective : Obligations.HexTextIsUpperCaseAndInjective :=
  ⟨fun f s => ⟨frameToHex f, exec_f2h f s, length_frameToHex f, fun _ => isUpperHexDigit_of_mem_frameToHex⟩,
    fun _ _ _ _ hf hg => frameToHex_injective ((exec_f2h_eq_text_iff.mp hf).trans (exec_f2h_eq_text_iff.mp hg).symm)⟩

/-- Settles O31: a text spells the frame whose `F2H` is the text's upper-case form, so the text of `F2H` spells its own
frame, and a text of ten digits in upper case is `F2H` of the frame it spells. -/
theorem hexRoundTrip : Obligations.HexRoundTrip := by
  refine ⟨fun f s u => ?_, fun t f s u h => ?_, fun t t' s h => ?_,
    fun t hlen (hup : ∀ ch ∈ t, IsUpperHexDigit ch) => ?_⟩
  · have hspell : (frameToHex f).map upperCase = frameToHex f :=
      map_upperCase_of_isUpperHexDigit fun _ => isUpperHexDigit_of_mem_frameToHex
    exact ⟨frameToHex f, exec_f2h f s, fun hf => exec_h2f_spelled_valid hspell hf u,
      fun hf => exec_h2f_spelled_invalid hspell hf u⟩
  · exact exec_f2h_eq_text_iff.mpr (map_upperCase_eq_of_exec_h2f h).symm
  · rw [exec_h2f, exec_h2f, ← decodeHex_map_upperCase, h, decodeHex_map_upperCase]
  · obtain ⟨f, hf⟩ := exists_frame_of_text hlen fun ⟨ch, hm, hv⟩ => (hup ch hm).hexVal_ne_none hv
    rw [map_upperCase_of_isUpperHexDigit hup] at hf
    refine ⟨f, fun g s => ?_⟩
    rw [exec_f2h_eq_text_iff, hf, frameToHex_injective.eq_iff]

/-- Settles O32: no other length is ten, and none of the characters is a hex digit. -/
theorem rejectedTexts : Obligations.RejectedTexts := by
  intro t s h
  refine exec_h2f_wrongLength ?_ s
  obtain h | h | h | h | h | h | h | h | h | ⟨ch, hm, hch⟩ := h
  · exact .inl h.ne
  · exact .inl h.ne'
  rotate_right
  · exact .inr ⟨ch, hm, hexVal_eq_none (by omega) (by omega) (by omega)⟩
  all_goals exact .inr ⟨_, h, rfl⟩

end Sys2Proof.Machine
end
